-- ==== Sys2Proof/Word.lean ====
section
/-! DEFINITION. The words of the machine: bytes, 16-bit bus addresses, and the three operation widths (R7, R8 of
00_scope.md). -/

namespace Sys2Proof

/-- A byte is 8 bits (R8). -/
abbrev Byte := BitVec 8

/-- A bus address, an interrupt request and a special register are 16 bits (R7). -/
abbrev Addr := BitVec 16

/-- The width `W` of an instruction in bits: 8, 16 or 32 (R12, R22). -/
inductive Width where
  | w8
  | w16
  | w32
deriving DecidableEq, Repr

/-- `W`, in bits. -/
abbrev Width.bits : Width → Nat
  | .w8 => 8
  | .w16 => 16
  | .w32 => 32

/-- `k = W/8`, in bytes (R22). -/
abbrev Width.bytes : Width → Nat
  | .w8 => 1
  | .w16 => 2
  | .w32 => 4

end Sys2Proof
end

