-- ==== Sys2Proof/Config.lean ====
section
/-! DEFINITION. What a configuration fixes (R6 of 00_scope.md): the bus and the numbering of the instruction set as plain
data, which a state holds; and the open parameters, each an opaque constant of which nothing can be computed, kept inside
the bounds the spec sets by the way it is used. -/

namespace Sys2Proof

/-- A module of the bus: an aligned region with a read-only flag (R51). -/
structure Module where
  start : Nat
  capacity : Nat
  readOnly : Bool
deriving DecidableEq, Repr

/-- Whether an address lies in the module (R51, `Owner`). -/
def Module.owns (m : Module) (a : Nat) : Bool := decide (m.start ≤ a) && decide (a < m.start + m.capacity)

/-- Two modules share no address (R51: "Modules must not overlap"). -/
def Module.apart (m n : Module) : Bool :=
  decide (min (m.start + m.capacity) (n.start + n.capacity) ≤ max m.start n.start)

/-- The parameters of R6 that are plain data: the bus (`MODULES`, `VRAM_BASE`, `KEYRAM_BASE`) and the numbering of the
instruction set (`OPMAP`, `REGMAP`). A numbering is given by exchanges of two byte values, applied one after the other to
the spec's own tables (R86, R90): every numbering is a product of exchanges, so each has such a list, and each list gives
a numbering in which no byte has two meanings (assumption log entry 2). -/
structure Layout where
  /-- `MODULES` -/
  modules : List Module
  /-- `VRAM_BASE` -/
  vramBase : Nat
  /-- `KEYRAM_BASE` -/
  keyramBase : Nat
  /-- `OPMAP`, as exchanges of opcode bytes of R86 -/
  opmap : List (Byte × Byte)
  /-- `REGMAP`, as exchanges of operand bytes of R90 -/
  regmap : List (Byte × Byte)
deriving DecidableEq, Repr

/-- `CAP`: the sum of the capacities (R6, R51). -/
def Layout.cap (l : Layout) : Nat := (l.modules.map Module.capacity).sum

/-- `Owner(a)`: the module an address lies in (R51). -/
def Layout.owner (l : Layout) (a : Nat) : Option Module := l.modules.find? (·.owns a)

/-- A device's module starts at its base and holds the registers the spec puts there (R33, R34, R53). -/
def Layout.holdsDevice (l : Layout) (base size : Nat) : Bool :=
  match l.owner base with
  | some m => decide (m.start = base) && decide (size ≤ m.capacity)
  | none => false

/-- The constraints of R6 and R51: the list is not empty; starts and capacities are multiples of 4; the modules share no
address and end at or below `CAP`, so that they tile `[0, CAP)`; `4 <= CAP <= 65536` (D32); VRAM and key-RAM are two of
them and hold the devices' registers, 16 and 264 bytes (R33, R34; DEDUCED, assumption log entry 30). -/
def Layout.legal (l : Layout) : Bool :=
  !l.modules.isEmpty && l.modules.all (fun m => decide (m.start % 4 = 0) && decide (m.capacity % 4 = 0)) &&
    decide (l.modules.Pairwise fun m n => m.apart n = true) &&
    l.modules.all (fun m => decide (m.start + m.capacity ≤ l.cap)) && decide (4 ≤ l.cap) && decide (l.cap ≤ 65536) &&
    l.holdsDevice l.vramBase 16 && l.holdsDevice l.keyramBase 264 && decide (l.vramBase ≠ l.keyramBase)

/-- A configuration: a legal layout. "A configuration that breaks the constraints is not a machine of this spec" (R302),
and no state of the model has one. -/
structure Configuration extends Layout where
  /-- it meets the constraints -/
  isLegal : toLayout.legal = true
deriving DecidableEq, Repr

/-- Building the machine from its parameters, which fails on an illegal layout (R51, R302). -/
def Layout.build (l : Layout) : Option Configuration := if h : l.legal = true then some { l with isLegal := h } else none

/-- The reference layout of R52, with the key-RAM capacity of 264 that 90_conflicts.md C1 settles and the spec's own
numbering (assumption log entries 1 and 2): `CAP` is 39120 = 0x98D0. -/
def Layout.reference : Layout where
  modules :=
    [{ start := 0, capacity := 32768, readOnly := false },
     { start := 32768, capacity := 6088, readOnly := false },
     { start := 38856, capacity := 264, readOnly := false }]
  vramBase := 32768
  keyramBase := 38856
  opmap := []
  regmap := []

/-- The reference configuration. -/
def Configuration.reference : Configuration := { Layout.reference with isLegal := by decide }

/-- The open parameters of the video generator (R6, R332, R338). Every value of the type is a legal configuration: the
display dimensions are at least 1 and the clock rate leaves a v-blank budget of at least 0 (R332, D26), because the
quantities held here are what the legal values exceed their bounds by (assumption log entry 6). -/
structure VideoParams where
  /-- `DISPLAY_W - 1` -/
  widthPred : Nat
  /-- `DISPLAY_H - 1` -/
  heightPred : Nat
  /-- `CLOCK_RATE` less the smallest rate that fits the display -/
  clockSlack : Nat
  /-- `CHAR_H_OFFSET` -/
  charHOffset : Nat
  /-- `TILE_BANKS` -/
  tileBanks : Nat
  /-- `TILE_ID_TABLE_OFF` -/
  tileIdTableOff : Nat
  /-- `TileBit`: from the bytes of VRAM by offset, whether the mode is character mode, the bank and the pixel, the bit of
  the tile that covers the pixel (R338; assumption log entry 7). -/
  tileBit : (Nat → Byte) → Bool → Byte → Nat → Nat → Bool
deriving Inhabited

/-- `DISPLAY_W`. -/
def VideoParams.displayW (v : VideoParams) : Nat := v.widthPred + 1

/-- `DISPLAY_H`. -/
def VideoParams.displayH (v : VideoParams) : Nat := v.heightPred + 1

/-- Cycles of the active area of a frame: `DISPLAY_H` scanlines of `DISPLAY_W` pixels at 2 cycles and one h-blank of 12
(R332). -/
def VideoParams.activeCycles (v : VideoParams) : Nat := v.displayW * v.displayH * 2 + v.displayH * 12

/-- `CLOCK_RATE`; R332 asks for `DISPLAY_W * DISPLAY_H * 2 + DISPLAY_H * 12 <= floor(CLOCK_RATE / 30)`. -/
def VideoParams.clockRate (v : VideoParams) : Nat := 30 * v.activeCycles + v.clockSlack

/-- `opaque`: the display and clock of this machine (assumption log entries 6 and 7). -/
opaque Config.video : VideoParams

/-- `opaque`: what the cost of an instruction exceeds 1 cycle by (assumption log entry 3). -/
opaque Config.extraCost : Byte → Nat

/-- `COST(op)`, constrained to be at least 1 (R114, D19). -/
def Config.cost (op : Byte) : Nat := Config.extraCost op + 1

/-- `opaque`: `DIV0(W, signed, a)`, the value a divide by zero writes (R146; assumption log entry 4). -/
opaque Config.div0 (w : Nat) (signed : Bool) (a : BitVec w) : BitVec w

/-- `opaque`: `BOOT_VRAM` by VRAM offset, 0 where the map assigns nothing (R381; assumption log entry 5). -/
opaque Config.bootVram : Nat → Byte

/-- `opaque`: `PAUSE_ON_INTERRUPT` (R345; assumption log entry 8). -/
opaque Config.pauseOnInterrupt : Bool

end Sys2Proof
end

