-- ==== Sys2Proof/Syntax.lean ====
section
/-! DEFINITION. The instruction set: the register operands of R90 and one constructor for each of the 98 rows of
spec/opcode_table.json (R86 of 30_encoding.md), in the table's order. -/

namespace Sys2Proof

/-- What a register operand byte names (R90). The byte does not carry a width: a general-register base is read at the
width of the instruction. -/
inductive Operand where
  /-- 0x00: the constant zero -/
  | nil
  /-- 0x01 -/
  | pc
  /-- 0x02 -/
  | mem
  /-- 0x03 -/
  | ret
  /-- 0x04 -/
  | int
  /-- 0x10 + n: the general-register base `r[n]` -/
  | gen (n : Fin 16)
  /-- a byte that names no register: 0x05..0x0F, 0x20..0xFF -/
  | unassigned (b : Byte)
deriving DecidableEq, Repr

/-- The 98 instructions (R86). Operands stand in the order of the argument bytes (R83). -/
inductive Instr where
  -- No-op
  /-- 0x00, R281 -/
  | nop
  /-- 0x01, R282 -/
  | nopi (imm : Byte)
  -- Bitwise
  /-- 0x10, R131 -/
  | and (ra rb : Operand)
  /-- 0x11, R132 -/
  | or (ra rb : Operand)
  /-- 0x12, R133 -/
  | xor (ra rb : Operand)
  /-- 0x13, R134 -/
  | not (ra : Operand)
  /-- 0x14, R135 -/
  | andi (ra : Operand) (imm : Byte)
  /-- 0x15, R136 -/
  | ori (ra : Operand) (imm : Byte)
  /-- 0x16, R137 -/
  | xori (ra : Operand) (imm : Byte)
  /-- 0x18, R138 -/
  | shl (ra : Operand) (imm : Byte)
  /-- 0x19, R139 -/
  | shr (ra : Operand) (imm : Byte)
  -- Load immediate
  /-- 0x20, R201 -/
  | li8 (ra : Operand) (imm : Byte)
  /-- 0x21, R202 -/
  | li16 (ra : Operand) (imm : BitVec 16)
  /-- 0x22, R203 -/
  | li32 (ra : Operand) (imm : BitVec 32)
  /-- 0x24, R204 -/
  | lui8 (ra : Operand) (imm : Byte)
  /-- 0x25, R205 -/
  | lui16 (ra : Operand) (imm : BitVec 16)
  /-- 0x26, R206 -/
  | lui32 (ra : Operand) (imm : BitVec 32)
  -- Load and store through the pointer
  /-- 0x30, R211 -/
  | lm8 (ra : Operand)
  /-- 0x31, R212 -/
  | lm16 (ra : Operand)
  /-- 0x32, R213 -/
  | lm32 (ra : Operand)
  /-- 0x34, R214 -/
  | sm8 (ra : Operand)
  /-- 0x35, R215 -/
  | sm16 (ra : Operand)
  /-- 0x36, R216 -/
  | sm32 (ra : Operand)
  -- Register move
  /-- 0x38, R221 -/
  | mov8 (ra rb : Operand)
  /-- 0x39, R222 -/
  | mov16 (ra rb : Operand)
  /-- 0x3A, R223 -/
  | mov32 (ra rb : Operand)
  -- Arithmetic
  /-- 0x40, R150 -/
  | add8 (rd ra rb : Operand)
  /-- 0x41, R151 -/
  | add16 (rd ra rb : Operand)
  /-- 0x42, R152 -/
  | add32 (rd ra rb : Operand)
  /-- 0x44, R153 -/
  | addi8 (rd ra : Operand) (imm : Byte)
  /-- 0x45, R154 -/
  | addi16 (rd ra : Operand) (imm : BitVec 16)
  /-- 0x46, R155 -/
  | addi32 (rd ra : Operand) (imm : BitVec 32)
  /-- 0x48, R156 -/
  | addu8 (rd ra rb : Operand)
  /-- 0x49, R157 -/
  | addu16 (rd ra rb : Operand)
  /-- 0x4A, R158 -/
  | addu32 (rd ra rb : Operand)
  /-- 0x4C, R159 -/
  | addui8 (rd ra : Operand) (imm : Byte)
  /-- 0x4D, R160 -/
  | addui16 (rd ra : Operand) (imm : BitVec 16)
  /-- 0x4E, R161 -/
  | addui32 (rd ra : Operand) (imm : BitVec 32)
  /-- 0x50, R162 -/
  | sub8 (rd ra rb : Operand)
  /-- 0x51, R163 -/
  | sub16 (rd ra rb : Operand)
  /-- 0x52, R164 -/
  | sub32 (rd ra rb : Operand)
  /-- 0x54, R165 -/
  | subi8 (rd ra : Operand) (imm : Byte)
  /-- 0x55, R166 -/
  | subi16 (rd ra : Operand) (imm : BitVec 16)
  /-- 0x56, R167 -/
  | subi32 (rd ra : Operand) (imm : BitVec 32)
  /-- 0x58, R168 -/
  | subu8 (rd ra rb : Operand)
  /-- 0x59, R169 -/
  | subu16 (rd ra rb : Operand)
  /-- 0x5A, R170 -/
  | subu32 (rd ra rb : Operand)
  /-- 0x5C, R171 -/
  | subui8 (rd ra : Operand) (imm : Byte)
  /-- 0x5D, R172 -/
  | subui16 (rd ra : Operand) (imm : BitVec 16)
  /-- 0x5E, R173 -/
  | subui32 (rd ra : Operand) (imm : BitVec 32)
  /-- 0x60, R174 -/
  | mul8 (rd ra rb : Operand)
  /-- 0x61, R175 -/
  | mul16 (rd ra rb : Operand)
  /-- 0x62, R176 -/
  | mul32 (rd ra rb : Operand)
  /-- 0x64, R177 -/
  | muli8 (rd ra : Operand) (imm : Byte)
  /-- 0x65, R178 -/
  | muli16 (rd ra : Operand) (imm : BitVec 16)
  /-- 0x66, R179 -/
  | muli32 (rd ra : Operand) (imm : BitVec 32)
  /-- 0x68, R180 -/
  | mulu8 (rd ra rb : Operand)
  /-- 0x69, R181 -/
  | mulu16 (rd ra rb : Operand)
  /-- 0x6A, R182 -/
  | mulu32 (rd ra rb : Operand)
  /-- 0x6C, R183 -/
  | mului8 (rd ra : Operand) (imm : Byte)
  /-- 0x6D, R184 -/
  | mului16 (rd ra : Operand) (imm : BitVec 16)
  /-- 0x6E, R185 -/
  | mului32 (rd ra : Operand) (imm : BitVec 32)
  /-- 0x70, R186 -/
  | div8 (rd ra rb : Operand)
  /-- 0x71, R187 -/
  | div16 (rd ra rb : Operand)
  /-- 0x72, R188 -/
  | div32 (rd ra rb : Operand)
  /-- 0x74, R189 -/
  | divi8 (rd ra : Operand) (imm : Byte)
  /-- 0x75, R190 -/
  | divi16 (rd ra : Operand) (imm : BitVec 16)
  /-- 0x76, R191 -/
  | divi32 (rd ra : Operand) (imm : BitVec 32)
  /-- 0x78, R192 -/
  | divu8 (rd ra rb : Operand)
  /-- 0x79, R193 -/
  | divu16 (rd ra rb : Operand)
  /-- 0x7A, R194 -/
  | divu32 (rd ra rb : Operand)
  /-- 0x7C, R195 -/
  | divui8 (rd ra : Operand) (imm : Byte)
  /-- 0x7D, R196 -/
  | divui16 (rd ra : Operand) (imm : BitVec 16)
  /-- 0x7E, R197 -/
  | divui32 (rd ra : Operand) (imm : BitVec 32)
  -- Branch
  /-- 0x80, R242 -/
  | beq8 (ra rb : Operand) (target : Addr)
  /-- 0x81, R243 -/
  | beq16 (ra rb : Operand) (target : Addr)
  /-- 0x82, R244 -/
  | beq32 (ra rb : Operand) (target : Addr)
  /-- 0x84, R245 -/
  | blt8 (ra rb : Operand) (target : Addr)
  /-- 0x85, R246 -/
  | blt16 (ra rb : Operand) (target : Addr)
  /-- 0x86, R247 -/
  | blt32 (ra rb : Operand) (target : Addr)
  /-- 0x88, R248 -/
  | ble8 (ra rb : Operand) (target : Addr)
  /-- 0x89, R249 -/
  | ble16 (ra rb : Operand) (target : Addr)
  /-- 0x8A, R250 -/
  | ble32 (ra rb : Operand) (target : Addr)
  /-- 0x8C, R251 -/
  | bgt8 (ra rb : Operand) (target : Addr)
  /-- 0x8D, R252 -/
  | bgt16 (ra rb : Operand) (target : Addr)
  /-- 0x8E, R253 -/
  | bgt32 (ra rb : Operand) (target : Addr)
  /-- 0x90, R254 -/
  | bge8 (ra rb : Operand) (target : Addr)
  /-- 0x91, R255 -/
  | bge16 (ra rb : Operand) (target : Addr)
  /-- 0x92, R256 -/
  | bge32 (ra rb : Operand) (target : Addr)
  /-- 0x94, R257 -/
  | bne8 (ra rb : Operand) (target : Addr)
  /-- 0x95, R258 -/
  | bne16 (ra rb : Operand) (target : Addr)
  /-- 0x96, R259 -/
  | bne32 (ra rb : Operand) (target : Addr)
  -- Bulk memory
  /-- 0xA0, R231 -/
  | mvm (src dst : Addr) (len : Byte)
  /-- 0xA1, R232 -/
  | clm (addr : Addr) (len val : Byte)
  -- Jump and call
  /-- 0xB0, R271 -/
  | jmp (target : Addr)
  /-- 0xB1, R272 -/
  | call (target : Addr)
  /-- 0xB2, R273 -/
  | ret
  /-- 0xB3, R274 -/
  | rint
deriving DecidableEq, Repr

/-- The register operands of an instruction, in the order of its argument bytes (R83). -/
def Instr.operands : Instr → List Operand
  | .nop => []
  | .nopi _ => []
  | .and ra rb => [ra, rb]
  | .or ra rb => [ra, rb]
  | .xor ra rb => [ra, rb]
  | .not ra => [ra]
  | .andi ra _ => [ra]
  | .ori ra _ => [ra]
  | .xori ra _ => [ra]
  | .shl ra _ => [ra]
  | .shr ra _ => [ra]
  | .li8 ra _ => [ra]
  | .li16 ra _ => [ra]
  | .li32 ra _ => [ra]
  | .lui8 ra _ => [ra]
  | .lui16 ra _ => [ra]
  | .lui32 ra _ => [ra]
  | .lm8 ra => [ra]
  | .lm16 ra => [ra]
  | .lm32 ra => [ra]
  | .sm8 ra => [ra]
  | .sm16 ra => [ra]
  | .sm32 ra => [ra]
  | .mov8 ra rb => [ra, rb]
  | .mov16 ra rb => [ra, rb]
  | .mov32 ra rb => [ra, rb]
  | .add8 rd ra rb => [rd, ra, rb]
  | .add16 rd ra rb => [rd, ra, rb]
  | .add32 rd ra rb => [rd, ra, rb]
  | .addi8 rd ra _ => [rd, ra]
  | .addi16 rd ra _ => [rd, ra]
  | .addi32 rd ra _ => [rd, ra]
  | .addu8 rd ra rb => [rd, ra, rb]
  | .addu16 rd ra rb => [rd, ra, rb]
  | .addu32 rd ra rb => [rd, ra, rb]
  | .addui8 rd ra _ => [rd, ra]
  | .addui16 rd ra _ => [rd, ra]
  | .addui32 rd ra _ => [rd, ra]
  | .sub8 rd ra rb => [rd, ra, rb]
  | .sub16 rd ra rb => [rd, ra, rb]
  | .sub32 rd ra rb => [rd, ra, rb]
  | .subi8 rd ra _ => [rd, ra]
  | .subi16 rd ra _ => [rd, ra]
  | .subi32 rd ra _ => [rd, ra]
  | .subu8 rd ra rb => [rd, ra, rb]
  | .subu16 rd ra rb => [rd, ra, rb]
  | .subu32 rd ra rb => [rd, ra, rb]
  | .subui8 rd ra _ => [rd, ra]
  | .subui16 rd ra _ => [rd, ra]
  | .subui32 rd ra _ => [rd, ra]
  | .mul8 rd ra rb => [rd, ra, rb]
  | .mul16 rd ra rb => [rd, ra, rb]
  | .mul32 rd ra rb => [rd, ra, rb]
  | .muli8 rd ra _ => [rd, ra]
  | .muli16 rd ra _ => [rd, ra]
  | .muli32 rd ra _ => [rd, ra]
  | .mulu8 rd ra rb => [rd, ra, rb]
  | .mulu16 rd ra rb => [rd, ra, rb]
  | .mulu32 rd ra rb => [rd, ra, rb]
  | .mului8 rd ra _ => [rd, ra]
  | .mului16 rd ra _ => [rd, ra]
  | .mului32 rd ra _ => [rd, ra]
  | .div8 rd ra rb => [rd, ra, rb]
  | .div16 rd ra rb => [rd, ra, rb]
  | .div32 rd ra rb => [rd, ra, rb]
  | .divi8 rd ra _ => [rd, ra]
  | .divi16 rd ra _ => [rd, ra]
  | .divi32 rd ra _ => [rd, ra]
  | .divu8 rd ra rb => [rd, ra, rb]
  | .divu16 rd ra rb => [rd, ra, rb]
  | .divu32 rd ra rb => [rd, ra, rb]
  | .divui8 rd ra _ => [rd, ra]
  | .divui16 rd ra _ => [rd, ra]
  | .divui32 rd ra _ => [rd, ra]
  | .beq8 ra rb _ => [ra, rb]
  | .beq16 ra rb _ => [ra, rb]
  | .beq32 ra rb _ => [ra, rb]
  | .blt8 ra rb _ => [ra, rb]
  | .blt16 ra rb _ => [ra, rb]
  | .blt32 ra rb _ => [ra, rb]
  | .ble8 ra rb _ => [ra, rb]
  | .ble16 ra rb _ => [ra, rb]
  | .ble32 ra rb _ => [ra, rb]
  | .bgt8 ra rb _ => [ra, rb]
  | .bgt16 ra rb _ => [ra, rb]
  | .bgt32 ra rb _ => [ra, rb]
  | .bge8 ra rb _ => [ra, rb]
  | .bge16 ra rb _ => [ra, rb]
  | .bge32 ra rb _ => [ra, rb]
  | .bne8 ra rb _ => [ra, rb]
  | .bne16 ra rb _ => [ra, rb]
  | .bne32 ra rb _ => [ra, rb]
  | .mvm _ _ _ => []
  | .clm _ _ _ => []
  | .jmp _ => []
  | .call _ => []
  | .ret => []
  | .rint => []

/-- The length of an instruction in bytes, opcode included (R83, R86). -/
def Instr.length : Instr → Nat
  | .nop => 1
  | .nopi _ => 2
  | .and _ _ => 3
  | .or _ _ => 3
  | .xor _ _ => 3
  | .not _ => 2
  | .andi _ _ => 3
  | .ori _ _ => 3
  | .xori _ _ => 3
  | .shl _ _ => 3
  | .shr _ _ => 3
  | .li8 _ _ => 3
  | .li16 _ _ => 4
  | .li32 _ _ => 6
  | .lui8 _ _ => 3
  | .lui16 _ _ => 4
  | .lui32 _ _ => 6
  | .lm8 _ => 2
  | .lm16 _ => 2
  | .lm32 _ => 2
  | .sm8 _ => 2
  | .sm16 _ => 2
  | .sm32 _ => 2
  | .mov8 _ _ => 3
  | .mov16 _ _ => 3
  | .mov32 _ _ => 3
  | .add8 _ _ _ => 4
  | .add16 _ _ _ => 4
  | .add32 _ _ _ => 4
  | .addi8 _ _ _ => 4
  | .addi16 _ _ _ => 5
  | .addi32 _ _ _ => 7
  | .addu8 _ _ _ => 4
  | .addu16 _ _ _ => 4
  | .addu32 _ _ _ => 4
  | .addui8 _ _ _ => 4
  | .addui16 _ _ _ => 5
  | .addui32 _ _ _ => 7
  | .sub8 _ _ _ => 4
  | .sub16 _ _ _ => 4
  | .sub32 _ _ _ => 4
  | .subi8 _ _ _ => 4
  | .subi16 _ _ _ => 5
  | .subi32 _ _ _ => 7
  | .subu8 _ _ _ => 4
  | .subu16 _ _ _ => 4
  | .subu32 _ _ _ => 4
  | .subui8 _ _ _ => 4
  | .subui16 _ _ _ => 5
  | .subui32 _ _ _ => 7
  | .mul8 _ _ _ => 4
  | .mul16 _ _ _ => 4
  | .mul32 _ _ _ => 4
  | .muli8 _ _ _ => 4
  | .muli16 _ _ _ => 5
  | .muli32 _ _ _ => 7
  | .mulu8 _ _ _ => 4
  | .mulu16 _ _ _ => 4
  | .mulu32 _ _ _ => 4
  | .mului8 _ _ _ => 4
  | .mului16 _ _ _ => 5
  | .mului32 _ _ _ => 7
  | .div8 _ _ _ => 4
  | .div16 _ _ _ => 4
  | .div32 _ _ _ => 4
  | .divi8 _ _ _ => 4
  | .divi16 _ _ _ => 5
  | .divi32 _ _ _ => 7
  | .divu8 _ _ _ => 4
  | .divu16 _ _ _ => 4
  | .divu32 _ _ _ => 4
  | .divui8 _ _ _ => 4
  | .divui16 _ _ _ => 5
  | .divui32 _ _ _ => 7
  | .beq8 _ _ _ => 5
  | .beq16 _ _ _ => 5
  | .beq32 _ _ _ => 5
  | .blt8 _ _ _ => 5
  | .blt16 _ _ _ => 5
  | .blt32 _ _ _ => 5
  | .ble8 _ _ _ => 5
  | .ble16 _ _ _ => 5
  | .ble32 _ _ _ => 5
  | .bgt8 _ _ _ => 5
  | .bgt16 _ _ _ => 5
  | .bgt32 _ _ _ => 5
  | .bge8 _ _ _ => 5
  | .bge16 _ _ _ => 5
  | .bge32 _ _ _ => 5
  | .bne8 _ _ _ => 5
  | .bne16 _ _ _ => 5
  | .bne32 _ _ _ => 5
  | .mvm _ _ _ => 6
  | .clm _ _ _ => 5
  | .jmp _ => 3
  | .call _ => 3
  | .ret => 1
  | .rint => 1

end Sys2Proof
end

