-- ==== Sys2Proof/WellFormed.lean ====
section
/-! DEFINITION. Well-formed instructions: a term is well-formed when an encoding stands for it. The one way for a term to
fail is an `unassigned` operand that holds a byte R90 assigns to a register. -/

namespace Sys2Proof

/-- The operand bytes that name a register: 0x00..0x04 and 0x10..0x1F (R90). -/
def assignedOperandByte (b : Byte) : Bool :=
  decide (b.toNat ≤ 0x04) || (decide (0x10 ≤ b.toNat) && decide (b.toNat ≤ 0x1F))

/-- An operand stands for exactly one byte: `unassigned` holds only bytes that name no register (R90). -/
def Operand.wellFormed : Operand → Bool
  | .unassigned b => !assignedOperandByte b
  | _ => true

/-- Every operand of the instruction is well-formed; an operand that is invalid in its position is well-formed all the
same, for R94 gives it a meaning. -/
def Instr.wellFormed (i : Instr) : Bool := i.operands.all Operand.wellFormed

end Sys2Proof
end

