-- ==== Sys2Proof/Decode.lean ====
section
/-! DEFINITION. The decoder and the encoder of the bytecode (30_encoding.md R80 to R94), and the little-endian byte order
they and every multi-byte access use (R9, R54). The opcode and operand numbers written here are the spec's own; a
configuration's `OPMAP` and `REGMAP` renumber them (assumption log entry 2). -/

namespace Sys2Proof

/-- `LE(b0, b1, ...)`: the number whose least significant byte is the first (R9). -/
def leNat : List Byte → Nat
  | [] => 0
  | b :: bs => b.toNat + 256 * leNat bs

/-- The `k` low bytes of a number, least significant first (R9). -/
def leBytes : Nat → Nat → List Byte
  | 0, _ => []
  | k + 1, v => BitVec.ofNat 8 v :: leBytes k (v / 256)

/-- The exchange of two byte values. -/
def exchange (p : Byte × Byte) (b : Byte) : Byte := if b = p.1 then p.2 else if b = p.2 then p.1 else b

/-- The byte a configuration gives to what the spec's own table puts at `b` (R6, `OPMAP` and `REGMAP`). -/
def renumber (ps : List (Byte × Byte)) (b : Byte) : Byte := ps.foldl (fun x p => exchange p x) b

/-- The byte of the spec's own table whose meaning a configuration gives to `b` (R6, `OPMAP` and `REGMAP`). -/
def original (ps : List (Byte × Byte)) (b : Byte) : Byte := ps.foldr exchange b

/-- The register an operand byte of the spec's own table names (R90). -/
def Operand.ofByte (b : Byte) : Operand :=
  if b = 0x00 then .nil
  else if b = 0x01 then .pc
  else if b = 0x02 then .mem
  else if b = 0x03 then .ret
  else if b = 0x04 then .int
  else if 0x10 ≤ b.toNat ∧ b.toNat ≤ 0x1F then .gen (Fin.ofNat 16 (b.toNat - 0x10))
  else .unassigned b

/-- The byte that names an operand in the spec's own table (R90). -/
def Operand.toByte : Operand → Byte
  | .nil => 0x00
  | .pc => 0x01
  | .mem => 0x02
  | .ret => 0x03
  | .int => 0x04
  | .gen n => BitVec.ofNat 8 (0x10 + n.val)
  | .unassigned b => b

/-- The fifteen formats of R83, each with the instruction its arguments make. -/
inductive Form where
  | n (mk : Instr)
  | i8 (mk : Byte → Instr)
  | r (mk : Operand → Instr)
  | rr (mk : Operand → Operand → Instr)
  | ri8 (mk : Operand → Byte → Instr)
  | ri16 (mk : Operand → BitVec 16 → Instr)
  | ri32 (mk : Operand → BitVec 32 → Instr)
  | rrr (mk : Operand → Operand → Operand → Instr)
  | rri8 (mk : Operand → Operand → Byte → Instr)
  | rri16 (mk : Operand → Operand → BitVec 16 → Instr)
  | rri32 (mk : Operand → Operand → BitVec 32 → Instr)
  | rra (mk : Operand → Operand → Addr → Instr)
  | a (mk : Addr → Instr)
  | aai8 (mk : Addr → Addr → Byte → Instr)
  | ai8i8 (mk : Addr → Byte → Byte → Instr)

/-- Read the arguments of a format from the bytes that follow the opcode, in order, 16- and 32-bit ones little-endian (R82,
R83, R84), the operand bytes by `reg`; `none` when there are too few bytes. -/
def Form.read (reg : Byte → Operand) (f : Form) (args : List Byte) : Option Instr :=
  match f with
  | .n i => some i
  | .i8 mk =>
    match args with
    | imm :: _ => some (mk imm)
    | _ => none
  | .r mk =>
    match args with
    | ra :: _ => some (mk (reg ra))
    | _ => none
  | .rr mk =>
    match args with
    | ra :: rb :: _ => some (mk (reg ra) (reg rb))
    | _ => none
  | .ri8 mk =>
    match args with
    | ra :: imm :: _ => some (mk (reg ra) imm)
    | _ => none
  | .ri16 mk =>
    match args with
    | ra :: imm0 :: imm1 :: _ => some (mk (reg ra) (BitVec.ofNat 16 (leNat [imm0, imm1])))
    | _ => none
  | .ri32 mk =>
    match args with
    | ra :: imm0 :: imm1 :: imm2 :: imm3 :: _ => some (mk (reg ra) (BitVec.ofNat 32 (leNat [imm0, imm1, imm2, imm3])))
    | _ => none
  | .rrr mk =>
    match args with
    | rd :: ra :: rb :: _ => some (mk (reg rd) (reg ra) (reg rb))
    | _ => none
  | .rri8 mk =>
    match args with
    | rd :: ra :: imm :: _ => some (mk (reg rd) (reg ra) imm)
    | _ => none
  | .rri16 mk =>
    match args with
    | rd :: ra :: imm0 :: imm1 :: _ => some (mk (reg rd) (reg ra) (BitVec.ofNat 16 (leNat [imm0, imm1])))
    | _ => none
  | .rri32 mk =>
    match args with
    | rd :: ra :: imm0 :: imm1 :: imm2 :: imm3 :: _ => some (mk (reg rd) (reg ra) (BitVec.ofNat 32 (leNat [imm0, imm1, imm2, imm3])))
    | _ => none
  | .rra mk =>
    match args with
    | ra :: rb :: target0 :: target1 :: _ => some (mk (reg ra) (reg rb) (BitVec.ofNat 16 (leNat [target0, target1])))
    | _ => none
  | .a mk =>
    match args with
    | target0 :: target1 :: _ => some (mk (BitVec.ofNat 16 (leNat [target0, target1])))
    | _ => none
  | .aai8 mk =>
    match args with
    | src0 :: src1 :: dst0 :: dst1 :: len :: _ => some (mk (BitVec.ofNat 16 (leNat [src0, src1])) (BitVec.ofNat 16 (leNat [dst0, dst1])) len)
    | _ => none
  | .ai8i8 mk =>
    match args with
    | addr0 :: addr1 :: len :: val :: _ => some (mk (BitVec.ofNat 16 (leNat [addr0, addr1])) len val)
    | _ => none

/-- A row of the opcode map: the opcode byte, the mnemonic and the format with its instruction. -/
abbrev OpcodeRow := Byte × String × Form

/-- No-op (R86). -/
def noOpOpcodes : List OpcodeRow :=
  [(0x00, "nop", .n .nop),
   (0x01, "nopi", .i8 .nopi)]

/-- Bitwise (R86). -/
def bitwiseOpcodes : List OpcodeRow :=
  [(0x10, "and", .rr .and),
   (0x11, "or", .rr .or),
   (0x12, "xor", .rr .xor),
   (0x13, "not", .r .not),
   (0x14, "andi", .ri8 .andi),
   (0x15, "ori", .ri8 .ori),
   (0x16, "xori", .ri8 .xori),
   (0x18, "shl", .ri8 .shl),
   (0x19, "shr", .ri8 .shr)]

/-- Load immediate (R86). -/
def loadImmediateOpcodes : List OpcodeRow :=
  [(0x20, "li8", .ri8 .li8),
   (0x21, "li16", .ri16 .li16),
   (0x22, "li32", .ri32 .li32),
   (0x24, "lui8", .ri8 .lui8),
   (0x25, "lui16", .ri16 .lui16),
   (0x26, "lui32", .ri32 .lui32)]

/-- Load and store through the pointer (R86). -/
def loadStoreOpcodes : List OpcodeRow :=
  [(0x30, "lm8", .r .lm8),
   (0x31, "lm16", .r .lm16),
   (0x32, "lm32", .r .lm32),
   (0x34, "sm8", .r .sm8),
   (0x35, "sm16", .r .sm16),
   (0x36, "sm32", .r .sm32)]

/-- Register move (R86). -/
def moveOpcodes : List OpcodeRow :=
  [(0x38, "mov8", .rr .mov8),
   (0x39, "mov16", .rr .mov16),
   (0x3A, "mov32", .rr .mov32)]

/-- Arithmetic: add (R86). -/
def addOpcodes : List OpcodeRow :=
  [(0x40, "add8", .rrr .add8),
   (0x41, "add16", .rrr .add16),
   (0x42, "add32", .rrr .add32),
   (0x44, "addi8", .rri8 .addi8),
   (0x45, "addi16", .rri16 .addi16),
   (0x46, "addi32", .rri32 .addi32),
   (0x48, "addu8", .rrr .addu8),
   (0x49, "addu16", .rrr .addu16),
   (0x4A, "addu32", .rrr .addu32),
   (0x4C, "addui8", .rri8 .addui8),
   (0x4D, "addui16", .rri16 .addui16),
   (0x4E, "addui32", .rri32 .addui32)]

/-- Arithmetic: sub (R86). -/
def subOpcodes : List OpcodeRow :=
  [(0x50, "sub8", .rrr .sub8),
   (0x51, "sub16", .rrr .sub16),
   (0x52, "sub32", .rrr .sub32),
   (0x54, "subi8", .rri8 .subi8),
   (0x55, "subi16", .rri16 .subi16),
   (0x56, "subi32", .rri32 .subi32),
   (0x58, "subu8", .rrr .subu8),
   (0x59, "subu16", .rrr .subu16),
   (0x5A, "subu32", .rrr .subu32),
   (0x5C, "subui8", .rri8 .subui8),
   (0x5D, "subui16", .rri16 .subui16),
   (0x5E, "subui32", .rri32 .subui32)]

/-- Arithmetic: mul (R86). -/
def mulOpcodes : List OpcodeRow :=
  [(0x60, "mul8", .rrr .mul8),
   (0x61, "mul16", .rrr .mul16),
   (0x62, "mul32", .rrr .mul32),
   (0x64, "muli8", .rri8 .muli8),
   (0x65, "muli16", .rri16 .muli16),
   (0x66, "muli32", .rri32 .muli32),
   (0x68, "mulu8", .rrr .mulu8),
   (0x69, "mulu16", .rrr .mulu16),
   (0x6A, "mulu32", .rrr .mulu32),
   (0x6C, "mului8", .rri8 .mului8),
   (0x6D, "mului16", .rri16 .mului16),
   (0x6E, "mului32", .rri32 .mului32)]

/-- Arithmetic: div (R86). -/
def divOpcodes : List OpcodeRow :=
  [(0x70, "div8", .rrr .div8),
   (0x71, "div16", .rrr .div16),
   (0x72, "div32", .rrr .div32),
   (0x74, "divi8", .rri8 .divi8),
   (0x75, "divi16", .rri16 .divi16),
   (0x76, "divi32", .rri32 .divi32),
   (0x78, "divu8", .rrr .divu8),
   (0x79, "divu16", .rrr .divu16),
   (0x7A, "divu32", .rrr .divu32),
   (0x7C, "divui8", .rri8 .divui8),
   (0x7D, "divui16", .rri16 .divui16),
   (0x7E, "divui32", .rri32 .divui32)]

/-- Branch (R86). -/
def branchOpcodes : List OpcodeRow :=
  [(0x80, "beq8", .rra .beq8),
   (0x81, "beq16", .rra .beq16),
   (0x82, "beq32", .rra .beq32),
   (0x84, "blt8", .rra .blt8),
   (0x85, "blt16", .rra .blt16),
   (0x86, "blt32", .rra .blt32),
   (0x88, "ble8", .rra .ble8),
   (0x89, "ble16", .rra .ble16),
   (0x8A, "ble32", .rra .ble32),
   (0x8C, "bgt8", .rra .bgt8),
   (0x8D, "bgt16", .rra .bgt16),
   (0x8E, "bgt32", .rra .bgt32)]

/-- Branch (R86). -/
def branchMoreOpcodes : List OpcodeRow :=
  [(0x90, "bge8", .rra .bge8),
   (0x91, "bge16", .rra .bge16),
   (0x92, "bge32", .rra .bge32),
   (0x94, "bne8", .rra .bne8),
   (0x95, "bne16", .rra .bne16),
   (0x96, "bne32", .rra .bne32)]

/-- Bulk memory (R86). -/
def bulkOpcodes : List OpcodeRow :=
  [(0xA0, "mvm", .aai8 .mvm),
   (0xA1, "clm", .ai8i8 .clm)]

/-- Jump and call (R86). -/
def jumpCallOpcodes : List OpcodeRow :=
  [(0xB0, "jmp", .a .jmp),
   (0xB1, "call", .a .call),
   (0xB2, "ret", .n .ret),
   (0xB3, "rint", .n .rint)]

/-- The opcode map of R86: each opcode byte with its mnemonic and its format. -/
def opcodeTable : List OpcodeRow :=
  List.flatten [noOpOpcodes, bitwiseOpcodes, loadImmediateOpcodes, loadStoreOpcodes, moveOpcodes, addOpcodes, subOpcodes, mulOpcodes, divOpcodes, branchOpcodes, branchMoreOpcodes, bulkOpcodes, jumpCallOpcodes]

/-- The format of an opcode byte, `none` for an unknown opcode (R81, R88). -/
def formIn (op : Byte) : List OpcodeRow → Option Form
  | [] => none
  | (o, _, f) :: rows => if op = o then some f else formIn op rows

/-- The opcode byte of the spec's own table that an opcode byte stands for (R6, `OPMAP`). -/
def Configuration.opcode (c : Configuration) (op : Byte) : Byte := original c.opmap op

/-- The register an operand byte names (R6, `REGMAP`; R90). -/
def Configuration.operand (c : Configuration) (b : Byte) : Operand := Operand.ofByte (original c.regmap b)

/-- Whether an opcode byte is in the opcode table (R12 "Known, unknown opcode"). -/
def knownOpcode (c : Configuration) (op : Byte) : Bool := (formIn (c.opcode op) opcodeTable).isSome

/-- Why bytes decode to no instruction. -/
inductive DecodeError where
  /-- there is no opcode byte -/
  | noBytes
  /-- the opcode is in no row of the table (R88) -/
  | unknownOpcode (op : Byte)
  /-- the opcode is known and argument bytes are missing; never where the machine decodes, for it reads six bytes
  after every opcode -/
  | truncated (op : Byte)
deriving DecidableEq, Repr

/-- Decode the instruction at the head of a list of bytes, under a configuration's numbering (R80, R81). -/
def decodeIn (c : Configuration) : List Byte → Except DecodeError Instr
  | [] => .error .noBytes
  | op :: args =>
    match formIn (c.opcode op) opcodeTable with
    | none => .error (.unknownOpcode op)
    | some f =>
      match f.read c.operand args with
      | some i => .ok i
      | none => .error (.truncated op)

/-- Decode the instruction at the head of a list of bytes, under the spec's own numbering (R80, R81). -/
def decode (bs : List Byte) : Except DecodeError Instr := decodeIn Configuration.reference bs

/-- The bytes of an instruction, the opcode and operand bytes as `op` and `reg` give them (R83, R86). -/
def encodeWith (op : Byte → Byte) (reg : Operand → Byte) : Instr → List Byte
  | .nop => [op 0x00]
  | .nopi imm => [op 0x01, imm]
  | .and ra rb => [op 0x10, reg ra, reg rb]
  | .or ra rb => [op 0x11, reg ra, reg rb]
  | .xor ra rb => [op 0x12, reg ra, reg rb]
  | .not ra => [op 0x13, reg ra]
  | .andi ra imm => [op 0x14, reg ra, imm]
  | .ori ra imm => [op 0x15, reg ra, imm]
  | .xori ra imm => [op 0x16, reg ra, imm]
  | .shl ra imm => [op 0x18, reg ra, imm]
  | .shr ra imm => [op 0x19, reg ra, imm]
  | .li8 ra imm => [op 0x20, reg ra, imm]
  | .li16 ra imm => [op 0x21, reg ra] ++ leBytes 2 imm.toNat
  | .li32 ra imm => [op 0x22, reg ra] ++ leBytes 4 imm.toNat
  | .lui8 ra imm => [op 0x24, reg ra, imm]
  | .lui16 ra imm => [op 0x25, reg ra] ++ leBytes 2 imm.toNat
  | .lui32 ra imm => [op 0x26, reg ra] ++ leBytes 4 imm.toNat
  | .lm8 ra => [op 0x30, reg ra]
  | .lm16 ra => [op 0x31, reg ra]
  | .lm32 ra => [op 0x32, reg ra]
  | .sm8 ra => [op 0x34, reg ra]
  | .sm16 ra => [op 0x35, reg ra]
  | .sm32 ra => [op 0x36, reg ra]
  | .mov8 ra rb => [op 0x38, reg ra, reg rb]
  | .mov16 ra rb => [op 0x39, reg ra, reg rb]
  | .mov32 ra rb => [op 0x3A, reg ra, reg rb]
  | .add8 rd ra rb => [op 0x40, reg rd, reg ra, reg rb]
  | .add16 rd ra rb => [op 0x41, reg rd, reg ra, reg rb]
  | .add32 rd ra rb => [op 0x42, reg rd, reg ra, reg rb]
  | .addi8 rd ra imm => [op 0x44, reg rd, reg ra, imm]
  | .addi16 rd ra imm => [op 0x45, reg rd, reg ra] ++ leBytes 2 imm.toNat
  | .addi32 rd ra imm => [op 0x46, reg rd, reg ra] ++ leBytes 4 imm.toNat
  | .addu8 rd ra rb => [op 0x48, reg rd, reg ra, reg rb]
  | .addu16 rd ra rb => [op 0x49, reg rd, reg ra, reg rb]
  | .addu32 rd ra rb => [op 0x4A, reg rd, reg ra, reg rb]
  | .addui8 rd ra imm => [op 0x4C, reg rd, reg ra, imm]
  | .addui16 rd ra imm => [op 0x4D, reg rd, reg ra] ++ leBytes 2 imm.toNat
  | .addui32 rd ra imm => [op 0x4E, reg rd, reg ra] ++ leBytes 4 imm.toNat
  | .sub8 rd ra rb => [op 0x50, reg rd, reg ra, reg rb]
  | .sub16 rd ra rb => [op 0x51, reg rd, reg ra, reg rb]
  | .sub32 rd ra rb => [op 0x52, reg rd, reg ra, reg rb]
  | .subi8 rd ra imm => [op 0x54, reg rd, reg ra, imm]
  | .subi16 rd ra imm => [op 0x55, reg rd, reg ra] ++ leBytes 2 imm.toNat
  | .subi32 rd ra imm => [op 0x56, reg rd, reg ra] ++ leBytes 4 imm.toNat
  | .subu8 rd ra rb => [op 0x58, reg rd, reg ra, reg rb]
  | .subu16 rd ra rb => [op 0x59, reg rd, reg ra, reg rb]
  | .subu32 rd ra rb => [op 0x5A, reg rd, reg ra, reg rb]
  | .subui8 rd ra imm => [op 0x5C, reg rd, reg ra, imm]
  | .subui16 rd ra imm => [op 0x5D, reg rd, reg ra] ++ leBytes 2 imm.toNat
  | .subui32 rd ra imm => [op 0x5E, reg rd, reg ra] ++ leBytes 4 imm.toNat
  | .mul8 rd ra rb => [op 0x60, reg rd, reg ra, reg rb]
  | .mul16 rd ra rb => [op 0x61, reg rd, reg ra, reg rb]
  | .mul32 rd ra rb => [op 0x62, reg rd, reg ra, reg rb]
  | .muli8 rd ra imm => [op 0x64, reg rd, reg ra, imm]
  | .muli16 rd ra imm => [op 0x65, reg rd, reg ra] ++ leBytes 2 imm.toNat
  | .muli32 rd ra imm => [op 0x66, reg rd, reg ra] ++ leBytes 4 imm.toNat
  | .mulu8 rd ra rb => [op 0x68, reg rd, reg ra, reg rb]
  | .mulu16 rd ra rb => [op 0x69, reg rd, reg ra, reg rb]
  | .mulu32 rd ra rb => [op 0x6A, reg rd, reg ra, reg rb]
  | .mului8 rd ra imm => [op 0x6C, reg rd, reg ra, imm]
  | .mului16 rd ra imm => [op 0x6D, reg rd, reg ra] ++ leBytes 2 imm.toNat
  | .mului32 rd ra imm => [op 0x6E, reg rd, reg ra] ++ leBytes 4 imm.toNat
  | .div8 rd ra rb => [op 0x70, reg rd, reg ra, reg rb]
  | .div16 rd ra rb => [op 0x71, reg rd, reg ra, reg rb]
  | .div32 rd ra rb => [op 0x72, reg rd, reg ra, reg rb]
  | .divi8 rd ra imm => [op 0x74, reg rd, reg ra, imm]
  | .divi16 rd ra imm => [op 0x75, reg rd, reg ra] ++ leBytes 2 imm.toNat
  | .divi32 rd ra imm => [op 0x76, reg rd, reg ra] ++ leBytes 4 imm.toNat
  | .divu8 rd ra rb => [op 0x78, reg rd, reg ra, reg rb]
  | .divu16 rd ra rb => [op 0x79, reg rd, reg ra, reg rb]
  | .divu32 rd ra rb => [op 0x7A, reg rd, reg ra, reg rb]
  | .divui8 rd ra imm => [op 0x7C, reg rd, reg ra, imm]
  | .divui16 rd ra imm => [op 0x7D, reg rd, reg ra] ++ leBytes 2 imm.toNat
  | .divui32 rd ra imm => [op 0x7E, reg rd, reg ra] ++ leBytes 4 imm.toNat
  | .beq8 ra rb target => [op 0x80, reg ra, reg rb] ++ leBytes 2 target.toNat
  | .beq16 ra rb target => [op 0x81, reg ra, reg rb] ++ leBytes 2 target.toNat
  | .beq32 ra rb target => [op 0x82, reg ra, reg rb] ++ leBytes 2 target.toNat
  | .blt8 ra rb target => [op 0x84, reg ra, reg rb] ++ leBytes 2 target.toNat
  | .blt16 ra rb target => [op 0x85, reg ra, reg rb] ++ leBytes 2 target.toNat
  | .blt32 ra rb target => [op 0x86, reg ra, reg rb] ++ leBytes 2 target.toNat
  | .ble8 ra rb target => [op 0x88, reg ra, reg rb] ++ leBytes 2 target.toNat
  | .ble16 ra rb target => [op 0x89, reg ra, reg rb] ++ leBytes 2 target.toNat
  | .ble32 ra rb target => [op 0x8A, reg ra, reg rb] ++ leBytes 2 target.toNat
  | .bgt8 ra rb target => [op 0x8C, reg ra, reg rb] ++ leBytes 2 target.toNat
  | .bgt16 ra rb target => [op 0x8D, reg ra, reg rb] ++ leBytes 2 target.toNat
  | .bgt32 ra rb target => [op 0x8E, reg ra, reg rb] ++ leBytes 2 target.toNat
  | .bge8 ra rb target => [op 0x90, reg ra, reg rb] ++ leBytes 2 target.toNat
  | .bge16 ra rb target => [op 0x91, reg ra, reg rb] ++ leBytes 2 target.toNat
  | .bge32 ra rb target => [op 0x92, reg ra, reg rb] ++ leBytes 2 target.toNat
  | .bne8 ra rb target => [op 0x94, reg ra, reg rb] ++ leBytes 2 target.toNat
  | .bne16 ra rb target => [op 0x95, reg ra, reg rb] ++ leBytes 2 target.toNat
  | .bne32 ra rb target => [op 0x96, reg ra, reg rb] ++ leBytes 2 target.toNat
  | .mvm src dst len => [op 0xA0] ++ leBytes 2 src.toNat ++ leBytes 2 dst.toNat ++ [len]
  | .clm addr len val => [op 0xA1] ++ leBytes 2 addr.toNat ++ [len, val]
  | .jmp target => [op 0xB0] ++ leBytes 2 target.toNat
  | .call target => [op 0xB1] ++ leBytes 2 target.toNat
  | .ret => [op 0xB2]
  | .rint => [op 0xB3]

/-- The bytes of an instruction under a configuration's numbering (R6, R83, R86). -/
def encodeIn (c : Configuration) (i : Instr) : List Byte :=
  encodeWith (renumber c.opmap) (fun o => renumber c.regmap o.toByte) i

/-- The bytes of an instruction under the spec's own numbering (R83, R86). -/
def encode (i : Instr) : List Byte := encodeIn Configuration.reference i

/-- The longest instruction has 7 bytes (R80). -/
def maxLength : Nat := 7

/-- The instruction the decoder reads from an instruction whose bits are `w`, byte 0 in the low bits, with every bit above
`nbits` zero; the table's numbering is the spec's own. -/
def decodeTableWord (nbits w : Nat) : Option Instr :=
  match decode (leBytes maxLength (w % 2 ^ nbits)) with
  | .ok i => some i
  | .error _ => none

end Sys2Proof
end

