-- ==== Sys2Proof/Machine/State.lean ====
section
/-! DEFINITION. The state of the block as plain data (10_state.md) with the configuration it was built from, what a step
can stop with, and the state after reset. -/

namespace Sys2Proof.Machine

/-- Sparse bytes by address: pairs in one canonical form, addresses strictly rising and no pair equal to what an unlisted
address reads as. It holds the bus memory `M` (R32) and the frame buffer `fb` (R38). -/
abbrev Memory := List Host.Cell

/-- The unit of work the video generator does next (R37). -/
inductive VPhase where
  | pixel
  | hblank
  | vblank
  | sync
deriving DecidableEq, Repr

/-- What the host does to the block between two cycles (R341). -/
inductive HostAction where
  /-- `set_key(code, is_down)` (R350) -/
  | setKey (code : Byte) (isDown : Bool)
  /-- `load_program(bytes, addr)` (R384) -/
  | loadProgram (bytes : List Byte) (addr : Addr)
  /-- `reboot()` (R382) -/
  | reboot
  /-- `pause` (R345) -/
  | pause
  /-- `resume` (R345) -/
  | resume
deriving DecidableEq, Repr

/-- Every piece of state of 10_state.md, and the host's coming actions. -/
structure State where
  /-- the configuration the machine was built from (R6); no step and no action of the host changes it -/
  config : Configuration
  /-- `r0 .. r15`: one block of 16 bytes (R20) -/
  regs : Vector Byte 16
  /-- the program counter (R24) -/
  pc : Addr
  /-- the memory pointer (R25) -/
  mem : Addr
  /-- the return-address register (R26) -/
  ret : Addr
  /-- the interrupt-return register (R27) -/
  int : Addr
  /-- the interrupt latch; 0 is empty (R30) -/
  ilatch : Addr
  /-- cycles the instruction in flight still has to spend; 0 when none is in flight (R31) -/
  crem : Nat
  /-- the opcode byte of the instruction in flight; it means something only while `crem > 0` (R31) -/
  cop : Byte
  /-- `M`, the bus memory (R32); an unlisted address reads as its configuration's `resetByte` says -/
  bus : Memory
  /-- the interrupt queue, front first (R35) -/
  iq : List Addr
  /-- the keyboard mapper's dirty flag (R36) -/
  kdirty : Bool
  /-- the current scanline (R37) -/
  vy : Nat
  /-- the current pixel (R37) -/
  vx : Nat
  /-- the unit of work to do next (R37) -/
  vphase : VPhase
  /-- frames completed since the last sync (R37) -/
  vframe : Nat
  /-- cycles the current video unit still has to spend (R37) -/
  vrem : Nat
  /-- the frame buffer, RGBA bytes by index (R38); an unlisted index reads as 0 -/
  fb : Memory
  /-- steps since the last reboot (R39) -/
  tick : Nat
  /-- the output to the host's clock (R39, R345); read by nothing -/
  paused : Bool
  /-- THE MODEL'S OWN FIELD (assumption log entry 10): the host's actions, the first list for the gap before the next
  cycle, the second for the gap before the one after it, and so on (R341) -/
  host : List (List HostAction)
deriving DecidableEq, Repr

/-- The faults of the machine: there are none. R300: "The machine has no synchronous exception, fault or trap of any
kind." No one raises a fault, so none can be unsafe (assumption log entry 23). -/
inductive Fault : Type
deriving DecidableEq, Repr

/-- Why a step would be refused. -/
inductive Refusal where
  /-- The instruction has no meaning in the model. Raised by `exec`'s refused arms only, and `exec` has none: every
  instruction has its meaning. Safe: the model would stop where the machine goes on. -/
  | notModelled (mnemonic : String)
deriving DecidableEq, Repr

/-- The machine of a configuration right after power-on (R40, R380): every register 0, memory as `resetByte` says, the
video generator at pixel (0, 0) of frame 0, nothing queued, latched or in flight. `cop` is a value of the model's choice
(assumption log entry 9). -/
def State.powerOn (c : Configuration) : State where
  config := c
  regs := Vector.replicate 16 0
  pc := 0
  mem := 0
  ret := 0
  int := 0
  ilatch := 0
  crem := 0
  cop := 0
  bus := []
  iq := []
  kdirty := false
  vy := 0
  vx := 0
  vphase := .pixel
  vframe := 0
  vrem := 0
  fb := []
  tick := 0
  paused := false
  host := []

/-- The machine of the reference configuration right after power-on (R52; assumption log entries 1 and 2). -/
def State.reset : State := State.powerOn Configuration.reference

end Sys2Proof.Machine
end

