-- ==== Sys2Proof/Machine/Ops.lean ====
section
/-! DEFINITION. The named operations over memory and registers: sparse memory, the bus accesses of 20_memory.md, the
register file of 10_state.md, the program counter of 40_execution_loop.md, and interrupt entry and return
(60_exceptions.md). -/

namespace Sys2Proof

/-! ### What a configuration says of the bus -/

/-- The capacity of the VRAM module: 0 where there is none, which no legal configuration has (R33, R52). -/
def Configuration.vramSize (c : Configuration) : Nat :=
  match c.owner c.vramBase with
  | some m => m.capacity
  | none => 0

/-- The VRAM offsets `BOOT_VRAM` may assign (R381): the video mode and palettes 0 to 6, and the tile-bitmap table from 16
up to the tile-id table or the end of the module; never 7 to 15. -/
def Configuration.bootDomain (c : Configuration) (o : Nat) : Bool :=
  decide (o ≤ 6) || (decide (16 ≤ o) && decide (o < c.vramSize) && decide (o < Config.video.tileIdTableOff))

/-- What a byte of the bus holds after reset, and so what an address not listed in the memory reads as: 0, except the
VRAM bytes seeded from `BOOT_VRAM` (R32, R381, R382). -/
def Configuration.resetByte (c : Configuration) (a : Nat) : Byte :=
  if decide (c.vramBase ≤ a) && c.bootDomain (a - c.vramBase) then Config.bootVram (a - c.vramBase) else 0

/-- Whether the module that owns an address is read-only; false where no module owns it (R51, R56). -/
def Configuration.readOnly (c : Configuration) (a : Nat) : Bool :=
  match c.owner a with
  | some m => m.readOnly
  | none => false

end Sys2Proof

namespace Sys2Proof.Machine

/-! ### Sparse memory in canonical form -/

/-- The byte at an address; an unlisted address reads as `d` says. -/
def Memory.read (d : Nat → Byte) (m : Memory) (a : Nat) : Byte :=
  match m with
  | [] => d a
  | (x, b) :: rest => if a = x then b else Memory.read d rest a

/-- Write one byte, keeping the addresses rising and leaving out a byte that the address reads as anyway. -/
def Memory.write (d : Nat → Byte) (m : Memory) (a : Nat) (b : Byte) : Memory :=
  match m with
  | [] => if b = d a then [] else [(a, b)]
  | (x, c) :: rest =>
    if a < x then (if b = d a then (x, c) :: rest else (a, b) :: (x, c) :: rest)
    else if a = x then (if b = d a then rest else (a, b) :: rest)
    else (x, c) :: Memory.write d rest a b

/-- Write bytes to consecutive addresses, dropping those at or above `cap`. -/
def Memory.store (d : Nat → Byte) (cap : Nat) (m : Memory) (a : Nat) : List Byte → Memory
  | [] => m
  | b :: bs => Memory.store d cap (if a < cap then Memory.write d m a b else m) (a + 1) bs

/-- The addresses are above a bound and strictly rising, and no pair says what its address reads as anyway. -/
def Memory.wfFrom (d : Nat → Byte) (lo : Nat) : Memory → Bool
  | [] => true
  | (x, b) :: rest => decide (lo ≤ x) && decide (b ≠ d x) && Memory.wfFrom d (x + 1) rest

/-- The canonical form of a memory of `cap` bytes. -/
def Memory.wf (d : Nat → Byte) (cap : Nat) (m : Memory) : Bool :=
  Memory.wfFrom d 0 m && m.all (fun c => decide (c.1 < cap))

/-! ### The bus (20_memory.md) -/

/-- `byte_at(a)`: a byte of `M`, 0 at or above `CAP` (R55, R57). -/
def State.byteAt (s : State) (a : Nat) : Byte :=
  if a < s.config.cap then Memory.read s.config.resetByte s.bus a else 0

/-- The `n` bytes from an address on, with no wrap (R55). -/
def State.bytesAt (s : State) (a n : Nat) : List Byte := (List.range n).map fun i => s.byteAt (a + i)

/-- `MemRead(addr, n)` for `n = W/8` (R55). -/
def State.memRead (s : State) (a : Nat) (w : Width) : BitVec w.bits :=
  BitVec.ofNat w.bits (leNat (s.bytesAt a w.bytes))

/-- Bytes stored straight into `M`, those at or above `CAP` dropped, with no read-only check (R60, R61, R65). -/
def State.storeBytes (s : State) (a : Nat) (bs : List Byte) : State :=
  { s with bus := Memory.store s.config.resetByte s.config.cap s.bus a bs }

/-- `MemWrite(addr, n, v)`: nothing at or above `CAP`, nothing when the module of the FIRST byte is read-only, and else the
bytes below `CAP` (R56, R57). -/
def State.memWrite (s : State) (a : Nat) (w : Width) (v : BitVec w.bits) : State :=
  if s.config.cap ≤ a then s
  else if s.config.readOnly a then s
  else s.storeBytes a (leBytes w.bytes v.toNat)

/-- How many bytes `BulkCopy` moves: the size, clamped against the room left from each end (R60). -/
def bulkCopySize (cap src dst size : Nat) : Nat := min size (min (cap - src) (cap - dst))

/-- `BulkCopy(src, dst, size)`: all source bytes are read before any is written (R60). -/
def State.bulkCopy (s : State) (src dst size : Nat) : State :=
  s.storeBytes dst (s.bytesAt src (bulkCopySize s.config.cap src dst size))

/-- `BulkClear(start, value, size)` (R61). -/
def State.bulkClear (s : State) (start : Nat) (value : Byte) (size : Nat) : State :=
  s.storeBytes start (List.replicate (min size (s.config.cap - start)) value)

/-! ### The register file (10_state.md) -/

/-- `r[n]` (R20). -/
def State.reg (s : State) (n : Nat) : Byte := s.regs[n]?.getD 0

/-- Put bytes into consecutive registers (R22). -/
def putRegs (rs : Vector Byte 16) (n : Nat) : List Byte → Vector Byte 16
  | [] => rs
  | b :: bs => putRegs (rs.setIfInBounds n b) (n + 1) bs

/-- `GRead(n, W)` (R22). -/
def State.gread (s : State) (n : Nat) (w : Width) : BitVec w.bits :=
  BitVec.ofNat w.bits (leNat ((List.range w.bytes).map fun i => s.reg (n + i)))

/-- `GWrite(n, W, v)` (R22). -/
def State.gwrite (s : State) (n : Nat) (w : Width) (v : BitVec w.bits) : State :=
  { s with regs := putRegs s.regs n (leBytes w.bytes v.toNat) }

/-! ### The program counter (40_execution_loop.md) -/

/-- An address of the bus: every value written to `pc` is reduced modulo `CAP` (R24). -/
def wrap (c : Configuration) (a : Nat) : Addr := BitVec.ofNat 16 (a % c.cap)

/-- `pc` after `k` argument bytes have been read: one wrapping increment for each (R113). -/
def State.readArgs (s : State) (k : Nat) : State := { s with pc := wrap s.config (s.pc.toNat + k) }

/-- "increment `pc` by 1 more to land on the next opcode" (R111, R112). -/
def State.nextOpcode (s : State) : State := { s with pc := wrap s.config (s.pc.toNat + 1) }

/-- `jump(t)`: the loop's own increment then lands on `t mod CAP` (R115). -/
def State.jump (s : State) (t : Addr) : State := { s with pc := wrap s.config (t.toNat + s.config.cap - 1) }

/-! ### Interrupt entry and return (60_exceptions.md) -/

/-- Interrupt entry: when a request is latched, `int` saves `pc`, `pc` becomes the handler's address and the latch is
emptied; nothing else changes (R325). -/
def State.takeInterrupt (s : State) : State :=
  { s with
    int := if s.ilatch = 0 then s.int else s.pc
    pc := if s.ilatch = 0 then s.pc else wrap s.config s.ilatch.toNat
    ilatch := 0 }

/-- Return from an interrupt: jump to `int` and clear it (R274, R328). -/
def State.returnFromInterrupt (s : State) : State := { s.jump s.int with int := 0 }

/-- Return from a call: jump to `ret` and clear it (R273). -/
def State.returnFromCall (s : State) : State := { s.jump s.ret with ret := 0 }

/-- Save the address of the next opcode in `ret` and jump (R272). -/
def State.callTo (s : State) (t : Addr) : State := { s.jump t with ret := wrap s.config (s.pc.toNat + 1) }

/-- `interrupt(address)`: the latch accepts a request when it is empty, and says whether it did (R320). -/
def State.interrupt (s : State) (a : Addr) : State × Bool :=
  if s.ilatch = 0 then ({ s with ilatch := a }, true) else (s, false)

/-- `Request(v)`: a device's request joins the queue at the back, 0 is dropped (R342). -/
def State.request (s : State) (v : Addr) : State := { s with iq := if v = 0 then s.iq else s.iq ++ [v] }

end Sys2Proof.Machine
end

