-- ==== Sys2Proof/Machine/Operands.lean ====
section
/-! DEFINITION. Operand validity and operand values (30_encoding.md R91 to R94). -/

namespace Sys2Proof.Machine

/-- `GBase(rid, W)`: the base register of a general-register operand, a multiple of `W/8` (R91). -/
def gbase (o : Operand) (w : Width) : Option Nat :=
  match o with
  | .gen n => if n.val % w.bytes = 0 then some n.val else none
  | _ => none

/-- `SrcVal(rid, W)`: the value of a source operand, `none` when it is invalid (R92). -/
def State.srcVal (s : State) (o : Operand) (w : Width) : Option (BitVec w.bits) :=
  match o with
  | .nil => some 0
  | o => (gbase o w).map fun n => s.gread n w

/-- `SrcVal16S(rid)`: the sources of `mov16`, which are the 16-bit sources and the four special registers (R92). -/
def State.srcVal16S (s : State) (o : Operand) : Option (BitVec 16) :=
  match o with
  | .pc => some s.pc
  | .mem => some s.mem
  | .ret => some s.ret
  | .int => some s.int
  | o => s.srcVal o .w16

/-- `DstOK(rid, W)`: the operand names a writable general-register target (R93). -/
def dstOK (o : Operand) (w : Width) : Bool := (gbase o w).isSome

/-- The write of a result: made when the destination is a writable target and every source was valid, and else skipped
(R93, R94, R119). -/
def State.putResult (s : State) (d : Operand) (w : Width) (v : Option (BitVec w.bits)) : State :=
  match gbase d w, v with
  | some n, some v => s.gwrite n w v
  | _, _ => s

end Sys2Proof.Machine
end

