-- ==== Sys2Proof/Machine/Arithmetic.lean ====
section
/-! DEFINITION. The arithmetic instructions (42_arithmetic.md): operands read as signed or unsigned integers, the exact
result, and its `W` low bits. -/

namespace Sys2Proof.Machine

/-- `trunc_W(a + b)`, the operands read as signed (R143). -/
def addSigned {n : Nat} (a b : BitVec n) : BitVec n := BitVec.ofInt n (a.toInt + b.toInt)

/-- `trunc_W(a + b)`, the operands read as unsigned (R143). -/
def addUnsigned {n : Nat} (a b : BitVec n) : BitVec n := BitVec.ofNat n (a.toNat + b.toNat)

/-- `trunc_W(a - b)`, the operands read as signed (R143). -/
def subSigned {n : Nat} (a b : BitVec n) : BitVec n := BitVec.ofInt n (a.toInt - b.toInt)

/-- `trunc_W(a - b)`, the operands read as unsigned (R143). -/
def subUnsigned {n : Nat} (a b : BitVec n) : BitVec n := BitVec.ofInt n ((a.toNat : Int) - (b.toNat : Int))

/-- `trunc_W(a * b)`, the operands read as signed (R143). -/
def mulSigned {n : Nat} (a b : BitVec n) : BitVec n := BitVec.ofInt n (a.toInt * b.toInt)

/-- `trunc_W(a * b)`, the operands read as unsigned (R143). -/
def mulUnsigned {n : Nat} (a b : BitVec n) : BitVec n := BitVec.ofNat n (a.toNat * b.toNat)

/-- `trunc_W(div_trunc(signed_W(a), signed_W(b)))`, rounded toward zero (R144, R145); `DIV0` for a zero divisor (R146). -/
def divSigned {n : Nat} (a b : BitVec n) : BitVec n :=
  if b = 0 then Config.div0 n true a else BitVec.ofInt n (Int.tdiv a.toInt b.toInt)

/-- `floor(a / b)` (R144); `DIV0` for a zero divisor (R146). -/
def divUnsigned {n : Nat} (a b : BitVec n) : BitVec n :=
  if b = 0 then Config.div0 n false a else BitVec.ofNat n (a.toNat / b.toNat)

/-- The result of two sources, when both are valid (R141). -/
def bothValid {α : Type} (f : α → α → α) : Option α → Option α → Option α
  | some a, some b => some (f a b)
  | _, _ => none

/-- The register forms: `rd <- f ra rb` (R140, R141). -/
def arithReg (w : Width) (f : BitVec w.bits → BitVec w.bits → BitVec w.bits) (rd ra rb : Operand) (s : State) : State :=
  (s.readArgs 3).putResult rd w (bothValid f ((s.readArgs 3).srcVal ra w) ((s.readArgs 3).srcVal rb w))

/-- The immediate forms: `rd <- f ra imm`, the immediate as wide as the operation (R140, R147). -/
def arithImm (w : Width) (f : BitVec w.bits → BitVec w.bits → BitVec w.bits) (rd ra : Operand) (imm : BitVec w.bits)
    (s : State) : State :=
  (s.readArgs (2 + w.bytes)).putResult rd w (((s.readArgs (2 + w.bytes)).srcVal ra w).map fun a => f a imm)

/-- `add8 rd ra rb` (R150). -/
def execAdd8 (rd ra rb : Operand) (s : State) : Host.Outcome State Fault Refusal :=
  .next (arithReg .w8 addSigned rd ra rb s)

/-- `add16 rd ra rb` (R151). -/
def execAdd16 (rd ra rb : Operand) (s : State) : Host.Outcome State Fault Refusal :=
  .next (arithReg .w16 addSigned rd ra rb s)

/-- `add32 rd ra rb` (R152). -/
def execAdd32 (rd ra rb : Operand) (s : State) : Host.Outcome State Fault Refusal :=
  .next (arithReg .w32 addSigned rd ra rb s)

/-- `addi8 rd ra imm8` (R153). -/
def execAddi8 (rd ra : Operand) (imm : Byte) (s : State) : Host.Outcome State Fault Refusal :=
  .next (arithImm .w8 addSigned rd ra imm s)

/-- `addi16 rd ra imm16` (R154). -/
def execAddi16 (rd ra : Operand) (imm : BitVec 16) (s : State) : Host.Outcome State Fault Refusal :=
  .next (arithImm .w16 addSigned rd ra imm s)

/-- `addi32 rd ra imm32` (R155). -/
def execAddi32 (rd ra : Operand) (imm : BitVec 32) (s : State) : Host.Outcome State Fault Refusal :=
  .next (arithImm .w32 addSigned rd ra imm s)

/-- `addu8 rd ra rb` (R156). -/
def execAddu8 (rd ra rb : Operand) (s : State) : Host.Outcome State Fault Refusal :=
  .next (arithReg .w8 addUnsigned rd ra rb s)

/-- `addu16 rd ra rb` (R157). -/
def execAddu16 (rd ra rb : Operand) (s : State) : Host.Outcome State Fault Refusal :=
  .next (arithReg .w16 addUnsigned rd ra rb s)

/-- `addu32 rd ra rb` (R158). -/
def execAddu32 (rd ra rb : Operand) (s : State) : Host.Outcome State Fault Refusal :=
  .next (arithReg .w32 addUnsigned rd ra rb s)

/-- `addui8 rd ra imm8` (R159). -/
def execAddui8 (rd ra : Operand) (imm : Byte) (s : State) : Host.Outcome State Fault Refusal :=
  .next (arithImm .w8 addUnsigned rd ra imm s)

/-- `addui16 rd ra imm16` (R160). -/
def execAddui16 (rd ra : Operand) (imm : BitVec 16) (s : State) : Host.Outcome State Fault Refusal :=
  .next (arithImm .w16 addUnsigned rd ra imm s)

/-- `addui32 rd ra imm32` (R161). -/
def execAddui32 (rd ra : Operand) (imm : BitVec 32) (s : State) : Host.Outcome State Fault Refusal :=
  .next (arithImm .w32 addUnsigned rd ra imm s)

/-- `sub8 rd ra rb` (R162). -/
def execSub8 (rd ra rb : Operand) (s : State) : Host.Outcome State Fault Refusal :=
  .next (arithReg .w8 subSigned rd ra rb s)

/-- `sub16 rd ra rb` (R163). -/
def execSub16 (rd ra rb : Operand) (s : State) : Host.Outcome State Fault Refusal :=
  .next (arithReg .w16 subSigned rd ra rb s)

/-- `sub32 rd ra rb` (R164). -/
def execSub32 (rd ra rb : Operand) (s : State) : Host.Outcome State Fault Refusal :=
  .next (arithReg .w32 subSigned rd ra rb s)

/-- `subi8 rd ra imm8` (R165). -/
def execSubi8 (rd ra : Operand) (imm : Byte) (s : State) : Host.Outcome State Fault Refusal :=
  .next (arithImm .w8 subSigned rd ra imm s)

/-- `subi16 rd ra imm16` (R166). -/
def execSubi16 (rd ra : Operand) (imm : BitVec 16) (s : State) : Host.Outcome State Fault Refusal :=
  .next (arithImm .w16 subSigned rd ra imm s)

/-- `subi32 rd ra imm32` (R167). -/
def execSubi32 (rd ra : Operand) (imm : BitVec 32) (s : State) : Host.Outcome State Fault Refusal :=
  .next (arithImm .w32 subSigned rd ra imm s)

/-- `subu8 rd ra rb` (R168). -/
def execSubu8 (rd ra rb : Operand) (s : State) : Host.Outcome State Fault Refusal :=
  .next (arithReg .w8 subUnsigned rd ra rb s)

/-- `subu16 rd ra rb` (R169). -/
def execSubu16 (rd ra rb : Operand) (s : State) : Host.Outcome State Fault Refusal :=
  .next (arithReg .w16 subUnsigned rd ra rb s)

/-- `subu32 rd ra rb` (R170). -/
def execSubu32 (rd ra rb : Operand) (s : State) : Host.Outcome State Fault Refusal :=
  .next (arithReg .w32 subUnsigned rd ra rb s)

/-- `subui8 rd ra imm8` (R171). -/
def execSubui8 (rd ra : Operand) (imm : Byte) (s : State) : Host.Outcome State Fault Refusal :=
  .next (arithImm .w8 subUnsigned rd ra imm s)

/-- `subui16 rd ra imm16` (R172). -/
def execSubui16 (rd ra : Operand) (imm : BitVec 16) (s : State) : Host.Outcome State Fault Refusal :=
  .next (arithImm .w16 subUnsigned rd ra imm s)

/-- `subui32 rd ra imm32` (R173). -/
def execSubui32 (rd ra : Operand) (imm : BitVec 32) (s : State) : Host.Outcome State Fault Refusal :=
  .next (arithImm .w32 subUnsigned rd ra imm s)

/-- `mul8 rd ra rb` (R174). -/
def execMul8 (rd ra rb : Operand) (s : State) : Host.Outcome State Fault Refusal :=
  .next (arithReg .w8 mulSigned rd ra rb s)

/-- `mul16 rd ra rb` (R175). -/
def execMul16 (rd ra rb : Operand) (s : State) : Host.Outcome State Fault Refusal :=
  .next (arithReg .w16 mulSigned rd ra rb s)

/-- `mul32 rd ra rb` (R176). -/
def execMul32 (rd ra rb : Operand) (s : State) : Host.Outcome State Fault Refusal :=
  .next (arithReg .w32 mulSigned rd ra rb s)

/-- `muli8 rd ra imm8` (R177). -/
def execMuli8 (rd ra : Operand) (imm : Byte) (s : State) : Host.Outcome State Fault Refusal :=
  .next (arithImm .w8 mulSigned rd ra imm s)

/-- `muli16 rd ra imm16` (R178). -/
def execMuli16 (rd ra : Operand) (imm : BitVec 16) (s : State) : Host.Outcome State Fault Refusal :=
  .next (arithImm .w16 mulSigned rd ra imm s)

/-- `muli32 rd ra imm32` (R179). -/
def execMuli32 (rd ra : Operand) (imm : BitVec 32) (s : State) : Host.Outcome State Fault Refusal :=
  .next (arithImm .w32 mulSigned rd ra imm s)

/-- `mulu8 rd ra rb` (R180). -/
def execMulu8 (rd ra rb : Operand) (s : State) : Host.Outcome State Fault Refusal :=
  .next (arithReg .w8 mulUnsigned rd ra rb s)

/-- `mulu16 rd ra rb` (R181). -/
def execMulu16 (rd ra rb : Operand) (s : State) : Host.Outcome State Fault Refusal :=
  .next (arithReg .w16 mulUnsigned rd ra rb s)

/-- `mulu32 rd ra rb` (R182). -/
def execMulu32 (rd ra rb : Operand) (s : State) : Host.Outcome State Fault Refusal :=
  .next (arithReg .w32 mulUnsigned rd ra rb s)

/-- `mului8 rd ra imm8` (R183). -/
def execMului8 (rd ra : Operand) (imm : Byte) (s : State) : Host.Outcome State Fault Refusal :=
  .next (arithImm .w8 mulUnsigned rd ra imm s)

/-- `mului16 rd ra imm16` (R184). -/
def execMului16 (rd ra : Operand) (imm : BitVec 16) (s : State) : Host.Outcome State Fault Refusal :=
  .next (arithImm .w16 mulUnsigned rd ra imm s)

/-- `mului32 rd ra imm32` (R185). -/
def execMului32 (rd ra : Operand) (imm : BitVec 32) (s : State) : Host.Outcome State Fault Refusal :=
  .next (arithImm .w32 mulUnsigned rd ra imm s)

/-- `div8 rd ra rb` (R186). -/
def execDiv8 (rd ra rb : Operand) (s : State) : Host.Outcome State Fault Refusal :=
  .next (arithReg .w8 divSigned rd ra rb s)

/-- `div16 rd ra rb` (R187). -/
def execDiv16 (rd ra rb : Operand) (s : State) : Host.Outcome State Fault Refusal :=
  .next (arithReg .w16 divSigned rd ra rb s)

/-- `div32 rd ra rb` (R188). -/
def execDiv32 (rd ra rb : Operand) (s : State) : Host.Outcome State Fault Refusal :=
  .next (arithReg .w32 divSigned rd ra rb s)

/-- `divi8 rd ra imm8` (R189). -/
def execDivi8 (rd ra : Operand) (imm : Byte) (s : State) : Host.Outcome State Fault Refusal :=
  .next (arithImm .w8 divSigned rd ra imm s)

/-- `divi16 rd ra imm16` (R190). -/
def execDivi16 (rd ra : Operand) (imm : BitVec 16) (s : State) : Host.Outcome State Fault Refusal :=
  .next (arithImm .w16 divSigned rd ra imm s)

/-- `divi32 rd ra imm32` (R191). -/
def execDivi32 (rd ra : Operand) (imm : BitVec 32) (s : State) : Host.Outcome State Fault Refusal :=
  .next (arithImm .w32 divSigned rd ra imm s)

/-- `divu8 rd ra rb` (R192). -/
def execDivu8 (rd ra rb : Operand) (s : State) : Host.Outcome State Fault Refusal :=
  .next (arithReg .w8 divUnsigned rd ra rb s)

/-- `divu16 rd ra rb` (R193). -/
def execDivu16 (rd ra rb : Operand) (s : State) : Host.Outcome State Fault Refusal :=
  .next (arithReg .w16 divUnsigned rd ra rb s)

/-- `divu32 rd ra rb` (R194). -/
def execDivu32 (rd ra rb : Operand) (s : State) : Host.Outcome State Fault Refusal :=
  .next (arithReg .w32 divUnsigned rd ra rb s)

/-- `divui8 rd ra imm8` (R195). -/
def execDivui8 (rd ra : Operand) (imm : Byte) (s : State) : Host.Outcome State Fault Refusal :=
  .next (arithImm .w8 divUnsigned rd ra imm s)

/-- `divui16 rd ra imm16` (R196). -/
def execDivui16 (rd ra : Operand) (imm : BitVec 16) (s : State) : Host.Outcome State Fault Refusal :=
  .next (arithImm .w16 divUnsigned rd ra imm s)

/-- `divui32 rd ra imm32` (R197). -/
def execDivui32 (rd ra : Operand) (imm : BitVec 32) (s : State) : Host.Outcome State Fault Refusal :=
  .next (arithImm .w32 divUnsigned rd ra imm s)

end Sys2Proof.Machine
end

