-- ==== Sys2Proof/Machine/Bitwise.lean ====
section
/-! DEFINITION. The bitwise instructions (41_bitwise.md): 8 bits, in place, unsigned. -/

namespace Sys2Proof.Machine

/-- The register forms: `ra <- f ra rb` when `ra` is a general register and `rb` a general register or `nil` (R130). -/
def bitwiseReg (f : Byte → Byte → Byte) (ra rb : Operand) (s : State) : State :=
  match gbase ra .w8, (s.readArgs 2).srcVal rb .w8 with
  | some n, some b => (s.readArgs 2).gwrite n .w8 (f ((s.readArgs 2).gread n .w8) b)
  | _, _ => s.readArgs 2

/-- The forms with one register, after `k` argument bytes: `ra <- f ra` (R130). -/
def bitwiseOne (k : Nat) (f : Byte → Byte) (ra : Operand) (s : State) : State :=
  match gbase ra .w8 with
  | some n => (s.readArgs k).gwrite n .w8 (f ((s.readArgs k).gread n .w8))
  | none => s.readArgs k

/-- Logical shift left; a count of 8 or more gives 0 (R138). -/
def shiftLeft (x count : Byte) : Byte :=
  if count.toNat < 8 then BitVec.ofNat 8 (x.toNat * 2 ^ count.toNat) else 0

/-- Logical shift right; a count of 8 or more gives 0 (R139). -/
def shiftRight (x count : Byte) : Byte :=
  if count.toNat < 8 then BitVec.ofNat 8 (x.toNat / 2 ^ count.toNat) else 0

/-- `and ra rb` (R131). -/
def execAnd (ra rb : Operand) (s : State) : Host.Outcome State Fault Refusal :=
  .next (bitwiseReg (· &&& ·) ra rb s)

/-- `or ra rb` (R132). -/
def execOr (ra rb : Operand) (s : State) : Host.Outcome State Fault Refusal :=
  .next (bitwiseReg (· ||| ·) ra rb s)

/-- `xor ra rb` (R133). -/
def execXor (ra rb : Operand) (s : State) : Host.Outcome State Fault Refusal :=
  .next (bitwiseReg (· ^^^ ·) ra rb s)

/-- `not ra` (R134). -/
def execNot (ra : Operand) (s : State) : Host.Outcome State Fault Refusal :=
  .next (bitwiseOne 1 (fun x => 255 - x) ra s)

/-- `andi ra imm8` (R135). -/
def execAndi (ra : Operand) (imm : Byte) (s : State) : Host.Outcome State Fault Refusal :=
  .next (bitwiseOne 2 (· &&& imm) ra s)

/-- `ori ra imm8` (R136). -/
def execOri (ra : Operand) (imm : Byte) (s : State) : Host.Outcome State Fault Refusal :=
  .next (bitwiseOne 2 (· ||| imm) ra s)

/-- `xori ra imm8` (R137). -/
def execXori (ra : Operand) (imm : Byte) (s : State) : Host.Outcome State Fault Refusal :=
  .next (bitwiseOne 2 (· ^^^ imm) ra s)

/-- `shl ra imm8` (R138). -/
def execShl (ra : Operand) (imm : Byte) (s : State) : Host.Outcome State Fault Refusal :=
  .next (bitwiseOne 2 (shiftLeft · imm) ra s)

/-- `shr ra imm8` (R139). -/
def execShr (ra : Operand) (imm : Byte) (s : State) : Host.Outcome State Fault Refusal :=
  .next (bitwiseOne 2 (shiftRight · imm) ra s)

end Sys2Proof.Machine
end

