-- ==== Sys2Proof/Machine/Flags.lean ====
section
/-! DEFINITION. The machine has no flags and no condition codes (R29): nothing is recorded by any instruction. What stands
in their place is the comparison a branch makes of its two operands (R241). -/

namespace Sys2Proof.Machine

/-- The six conditions of the branches (R241). -/
inductive Cond where
  | eq
  | lt
  | le
  | gt
  | ge
  | ne
deriving DecidableEq, Repr

/-- Whether a condition holds of two operands: "always unsigned comparison", at every width (R241). -/
def condHolds (c : Cond) {w : Nat} (a b : BitVec w) : Bool :=
  match c with
  | .eq => decide (a.toNat = b.toNat)
  | .lt => decide (a.toNat < b.toNat)
  | .le => decide (a.toNat ≤ b.toNat)
  | .gt => decide (b.toNat < a.toNat)
  | .ge => decide (b.toNat ≤ a.toNat)
  | .ne => decide (a.toNat ≠ b.toNat)

end Sys2Proof.Machine
end

