-- ==== Sys2Proof/Machine/Branch.lean ====
section
/-! DEFINITION. The conditional branches (47_branch.md). -/

namespace Sys2Proof.Machine

/-- Whether a branch is taken: both operands valid and the condition true of them (R240, R241). -/
def branchTaken (c : Cond) (w : Width) (ra rb : Operand) (s : State) : Bool :=
  match s.srcVal ra w, s.srcVal rb w with
  | some a, some b => condHolds c a b
  | _, _ => false

/-- A branch: all four argument bytes are consumed, and the target is jumped to when the branch is taken (R240). -/
def branch (c : Cond) (w : Width) (ra rb : Operand) (target : Addr) (s : State) : State :=
  if branchTaken c w ra rb (s.readArgs 4) then (s.readArgs 4).jump target else s.readArgs 4

/-- `beq8 ra rb target16` (R242). -/
def execBeq8 (ra rb : Operand) (target : Addr) (s : State) : Host.Outcome State Fault Refusal :=
  .next (branch .eq .w8 ra rb target s)

/-- `beq16 ra rb target16` (R243). -/
def execBeq16 (ra rb : Operand) (target : Addr) (s : State) : Host.Outcome State Fault Refusal :=
  .next (branch .eq .w16 ra rb target s)

/-- `beq32 ra rb target16` (R244). -/
def execBeq32 (ra rb : Operand) (target : Addr) (s : State) : Host.Outcome State Fault Refusal :=
  .next (branch .eq .w32 ra rb target s)

/-- `blt8 ra rb target16` (R245). -/
def execBlt8 (ra rb : Operand) (target : Addr) (s : State) : Host.Outcome State Fault Refusal :=
  .next (branch .lt .w8 ra rb target s)

/-- `blt16 ra rb target16` (R246). -/
def execBlt16 (ra rb : Operand) (target : Addr) (s : State) : Host.Outcome State Fault Refusal :=
  .next (branch .lt .w16 ra rb target s)

/-- `blt32 ra rb target16` (R247). -/
def execBlt32 (ra rb : Operand) (target : Addr) (s : State) : Host.Outcome State Fault Refusal :=
  .next (branch .lt .w32 ra rb target s)

/-- `ble8 ra rb target16` (R248). -/
def execBle8 (ra rb : Operand) (target : Addr) (s : State) : Host.Outcome State Fault Refusal :=
  .next (branch .le .w8 ra rb target s)

/-- `ble16 ra rb target16` (R249). -/
def execBle16 (ra rb : Operand) (target : Addr) (s : State) : Host.Outcome State Fault Refusal :=
  .next (branch .le .w16 ra rb target s)

/-- `ble32 ra rb target16` (R250). -/
def execBle32 (ra rb : Operand) (target : Addr) (s : State) : Host.Outcome State Fault Refusal :=
  .next (branch .le .w32 ra rb target s)

/-- `bgt8 ra rb target16` (R251). -/
def execBgt8 (ra rb : Operand) (target : Addr) (s : State) : Host.Outcome State Fault Refusal :=
  .next (branch .gt .w8 ra rb target s)

/-- `bgt16 ra rb target16` (R252). -/
def execBgt16 (ra rb : Operand) (target : Addr) (s : State) : Host.Outcome State Fault Refusal :=
  .next (branch .gt .w16 ra rb target s)

/-- `bgt32 ra rb target16` (R253). -/
def execBgt32 (ra rb : Operand) (target : Addr) (s : State) : Host.Outcome State Fault Refusal :=
  .next (branch .gt .w32 ra rb target s)

/-- `bge8 ra rb target16` (R254). -/
def execBge8 (ra rb : Operand) (target : Addr) (s : State) : Host.Outcome State Fault Refusal :=
  .next (branch .ge .w8 ra rb target s)

/-- `bge16 ra rb target16` (R255). -/
def execBge16 (ra rb : Operand) (target : Addr) (s : State) : Host.Outcome State Fault Refusal :=
  .next (branch .ge .w16 ra rb target s)

/-- `bge32 ra rb target16` (R256). -/
def execBge32 (ra rb : Operand) (target : Addr) (s : State) : Host.Outcome State Fault Refusal :=
  .next (branch .ge .w32 ra rb target s)

/-- `bne8 ra rb target16` (R257). -/
def execBne8 (ra rb : Operand) (target : Addr) (s : State) : Host.Outcome State Fault Refusal :=
  .next (branch .ne .w8 ra rb target s)

/-- `bne16 ra rb target16` (R258). -/
def execBne16 (ra rb : Operand) (target : Addr) (s : State) : Host.Outcome State Fault Refusal :=
  .next (branch .ne .w16 ra rb target s)

/-- `bne32 ra rb target16` (R259). -/
def execBne32 (ra rb : Operand) (target : Addr) (s : State) : Host.Outcome State Fault Refusal :=
  .next (branch .ne .w32 ra rb target s)

end Sys2Proof.Machine
end

