-- ==== Sys2Proof/Machine/Bulk.lean ====
section
/-! DEFINITION. The bulk memory operations (46_bulk_memory.md): all operands are immediates. -/

namespace Sys2Proof.Machine

/-- `mvm src16 dst16 len8` (R231). -/
def execMvm (src dst : Addr) (len : Byte) (s : State) : Host.Outcome State Fault Refusal :=
  .next ((s.readArgs 5).bulkCopy src.toNat dst.toNat len.toNat)

/-- `clm addr16 len8 val8` (R232). -/
def execClm (addr : Addr) (len val : Byte) (s : State) : Host.Outcome State Fault Refusal :=
  .next ((s.readArgs 4).bulkClear addr.toNat val len.toNat)

end Sys2Proof.Machine
end

