-- ==== Sys2Proof/Machine/JumpCall.lean ====
section
/-! DEFINITION. Jump, call, return and return from interrupt (48_jump_call.md). -/

namespace Sys2Proof.Machine

/-- `jmp target16` (R271). -/
def execJmp (target : Addr) (s : State) : Host.Outcome State Fault Refusal :=
  .next ((s.readArgs 2).jump target)

/-- `call target16`: `ret` receives the address of the opcode after the call (R272). -/
def execCall (target : Addr) (s : State) : Host.Outcome State Fault Refusal :=
  .next ((s.readArgs 2).callTo target)

/-- `ret` (R273). -/
def execRet (s : State) : Host.Outcome State Fault Refusal :=
  .next (s.returnFromCall)

/-- `rint` (R274). -/
def execRint (s : State) : Host.Outcome State Fault Refusal :=
  .next (s.returnFromInterrupt)

end Sys2Proof.Machine
end

