-- ==== Sys2Proof/Machine/LoadImmediate.lean ====
section
/-! DEFINITION. The load-immediate instructions (43_load_immediate.md). -/

namespace Sys2Proof.Machine

/-- The immediate goes to the general-register target, or, when `ra` is `mem`, its 16-bit form `p` becomes the memory
pointer; any other `ra` writes nothing (R200). -/
def loadImmediate (w : Width) (ra : Operand) (imm : BitVec w.bits) (p : Addr) (s : State) : State :=
  match ra with
  | .mem => { s.readArgs (1 + w.bytes) with mem := p }
  | ra => (s.readArgs (1 + w.bytes)).putResult ra w (some imm)

/-- `li8 ra imm8`; `mem` receives the byte sign-extended (R201). -/
def execLi8 (ra : Operand) (imm : Byte) (s : State) : Host.Outcome State Fault Refusal :=
  .next (loadImmediate .w8 ra imm (imm.signExtend 16) s)

/-- `li16 ra imm16`; `mem` receives the immediate as it is (R202). -/
def execLi16 (ra : Operand) (imm : BitVec 16) (s : State) : Host.Outcome State Fault Refusal :=
  .next (loadImmediate .w16 ra imm imm s)

/-- `li32 ra imm32`; `mem` receives the low 16 bits (R203). -/
def execLi32 (ra : Operand) (imm : BitVec 32) (s : State) : Host.Outcome State Fault Refusal :=
  .next (loadImmediate .w32 ra imm (imm.setWidth 16) s)

/-- `lui8 ra imm8`; `mem` receives the byte zero-extended (R204). -/
def execLui8 (ra : Operand) (imm : Byte) (s : State) : Host.Outcome State Fault Refusal :=
  .next (loadImmediate .w8 ra imm (imm.zeroExtend 16) s)

/-- `lui16 ra imm16`; `mem` receives the immediate as it is (R205). -/
def execLui16 (ra : Operand) (imm : BitVec 16) (s : State) : Host.Outcome State Fault Refusal :=
  .next (loadImmediate .w16 ra imm imm s)

/-- `lui32 ra imm32`; `mem` receives the low 16 bits (R206). -/
def execLui32 (ra : Operand) (imm : BitVec 32) (s : State) : Host.Outcome State Fault Refusal :=
  .next (loadImmediate .w32 ra imm (imm.setWidth 16) s)

end Sys2Proof.Machine
end

