-- ==== Sys2Proof/Machine/LoadStore.lean ====
section
/-! DEFINITION. Loads and stores through the memory pointer `mem`, which they do not change (44_load_store.md). -/

namespace Sys2Proof.Machine

/-- A load of `W` bits from the address in `mem` into a general-register target (R210). -/
def loadThrough (w : Width) (ra : Operand) (s : State) : State :=
  (s.readArgs 1).putResult ra w (some ((s.readArgs 1).memRead s.mem.toNat w))

/-- A store of a general register, or of 0 for `nil`, to the address in `mem` (R210). -/
def storeThrough (w : Width) (ra : Operand) (s : State) : State :=
  match (s.readArgs 1).srcVal ra w with
  | some v => (s.readArgs 1).memWrite s.mem.toNat w v
  | none => s.readArgs 1

/-- `lm8 ra` (R211). -/
def execLm8 (ra : Operand) (s : State) : Host.Outcome State Fault Refusal :=
  .next (loadThrough .w8 ra s)

/-- `lm16 ra` (R212). -/
def execLm16 (ra : Operand) (s : State) : Host.Outcome State Fault Refusal :=
  .next (loadThrough .w16 ra s)

/-- `lm32 ra` (R213). -/
def execLm32 (ra : Operand) (s : State) : Host.Outcome State Fault Refusal :=
  .next (loadThrough .w32 ra s)

/-- `sm8 ra` (R214). -/
def execSm8 (ra : Operand) (s : State) : Host.Outcome State Fault Refusal :=
  .next (storeThrough .w8 ra s)

/-- `sm16 ra` (R215). -/
def execSm16 (ra : Operand) (s : State) : Host.Outcome State Fault Refusal :=
  .next (storeThrough .w16 ra s)

/-- `sm32 ra` (R216). -/
def execSm32 (ra : Operand) (s : State) : Host.Outcome State Fault Refusal :=
  .next (storeThrough .w32 ra s)

end Sys2Proof.Machine
end

