-- ==== Sys2Proof/Machine/Move.lean ====
section
/-! DEFINITION. The register moves (45_move.md). -/

namespace Sys2Proof.Machine

/-- `ra <- rb` at width `W`, the source a general register or `nil` (R220). -/
def moveGeneral (w : Width) (ra rb : Operand) (s : State) : State :=
  (s.readArgs 2).putResult ra w ((s.readArgs 2).srcVal rb w)

/-- The 16-bit move, whose source may also be `pc`, `mem`, `ret` or `int`; `pc` reads as the address of the instruction's
own last byte, for the arguments have been fetched (R118, R222). -/
def moveSpecial (ra rb : Operand) (s : State) : State :=
  (s.readArgs 2).putResult ra .w16 ((s.readArgs 2).srcVal16S rb)

/-- `mov8 ra rb` (R221). -/
def execMov8 (ra rb : Operand) (s : State) : Host.Outcome State Fault Refusal :=
  .next (moveGeneral .w8 ra rb s)

/-- `mov16 ra rb` (R222). -/
def execMov16 (ra rb : Operand) (s : State) : Host.Outcome State Fault Refusal :=
  .next (moveSpecial ra rb s)

/-- `mov32 ra rb` (R223). -/
def execMov32 (ra rb : Operand) (s : State) : Host.Outcome State Fault Refusal :=
  .next (moveGeneral .w32 ra rb s)

end Sys2Proof.Machine
end

