-- ==== Sys2Proof/Machine/NoOp.lean ====
section
/-! DEFINITION. The no-operation instructions (49_noop.md). The cycles they occupy are `costOf`'s business (R114). -/

namespace Sys2Proof.Machine

/-- `nop`: nothing; the loop advances `pc` by 1 (R281). -/
def execNop (s : State) : Host.Outcome State Fault Refusal :=
  .next s

/-- `nopi imm8`: the argument byte is consumed; its value was already used as the cost (R282). -/
def execNopi (_imm : Byte) (s : State) : Host.Outcome State Fault Refusal :=
  .next (s.readArgs 1)

end Sys2Proof.Machine
end

