-- ==== Sys2Proof/Machine/Dispatch.lean ====
section
/-! DEFINITION. One arm for each instruction: its `Exec` block (R111). On entry `pc` is the address of the opcode; on exit it
is the address of the last argument byte, or what `jump` leaves. -/

namespace Sys2Proof.Machine

def exec (i : Instr) (s : State) : Host.Outcome State Fault Refusal :=
  match i with
  | .nop => Sys2Proof.Machine.execNop s
  | .nopi imm => Sys2Proof.Machine.execNopi imm s
  | .and ra rb => Sys2Proof.Machine.execAnd ra rb s
  | .or ra rb => Sys2Proof.Machine.execOr ra rb s
  | .xor ra rb => Sys2Proof.Machine.execXor ra rb s
  | .not ra => Sys2Proof.Machine.execNot ra s
  | .andi ra imm => Sys2Proof.Machine.execAndi ra imm s
  | .ori ra imm => Sys2Proof.Machine.execOri ra imm s
  | .xori ra imm => Sys2Proof.Machine.execXori ra imm s
  | .shl ra imm => Sys2Proof.Machine.execShl ra imm s
  | .shr ra imm => Sys2Proof.Machine.execShr ra imm s
  | .li8 ra imm => Sys2Proof.Machine.execLi8 ra imm s
  | .li16 ra imm => Sys2Proof.Machine.execLi16 ra imm s
  | .li32 ra imm => Sys2Proof.Machine.execLi32 ra imm s
  | .lui8 ra imm => Sys2Proof.Machine.execLui8 ra imm s
  | .lui16 ra imm => Sys2Proof.Machine.execLui16 ra imm s
  | .lui32 ra imm => Sys2Proof.Machine.execLui32 ra imm s
  | .lm8 ra => Sys2Proof.Machine.execLm8 ra s
  | .lm16 ra => Sys2Proof.Machine.execLm16 ra s
  | .lm32 ra => Sys2Proof.Machine.execLm32 ra s
  | .sm8 ra => Sys2Proof.Machine.execSm8 ra s
  | .sm16 ra => Sys2Proof.Machine.execSm16 ra s
  | .sm32 ra => Sys2Proof.Machine.execSm32 ra s
  | .mov8 ra rb => Sys2Proof.Machine.execMov8 ra rb s
  | .mov16 ra rb => Sys2Proof.Machine.execMov16 ra rb s
  | .mov32 ra rb => Sys2Proof.Machine.execMov32 ra rb s
  | .add8 rd ra rb => Sys2Proof.Machine.execAdd8 rd ra rb s
  | .add16 rd ra rb => Sys2Proof.Machine.execAdd16 rd ra rb s
  | .add32 rd ra rb => Sys2Proof.Machine.execAdd32 rd ra rb s
  | .addi8 rd ra imm => Sys2Proof.Machine.execAddi8 rd ra imm s
  | .addi16 rd ra imm => Sys2Proof.Machine.execAddi16 rd ra imm s
  | .addi32 rd ra imm => Sys2Proof.Machine.execAddi32 rd ra imm s
  | .addu8 rd ra rb => Sys2Proof.Machine.execAddu8 rd ra rb s
  | .addu16 rd ra rb => Sys2Proof.Machine.execAddu16 rd ra rb s
  | .addu32 rd ra rb => Sys2Proof.Machine.execAddu32 rd ra rb s
  | .addui8 rd ra imm => Sys2Proof.Machine.execAddui8 rd ra imm s
  | .addui16 rd ra imm => Sys2Proof.Machine.execAddui16 rd ra imm s
  | .addui32 rd ra imm => Sys2Proof.Machine.execAddui32 rd ra imm s
  | .sub8 rd ra rb => Sys2Proof.Machine.execSub8 rd ra rb s
  | .sub16 rd ra rb => Sys2Proof.Machine.execSub16 rd ra rb s
  | .sub32 rd ra rb => Sys2Proof.Machine.execSub32 rd ra rb s
  | .subi8 rd ra imm => Sys2Proof.Machine.execSubi8 rd ra imm s
  | .subi16 rd ra imm => Sys2Proof.Machine.execSubi16 rd ra imm s
  | .subi32 rd ra imm => Sys2Proof.Machine.execSubi32 rd ra imm s
  | .subu8 rd ra rb => Sys2Proof.Machine.execSubu8 rd ra rb s
  | .subu16 rd ra rb => Sys2Proof.Machine.execSubu16 rd ra rb s
  | .subu32 rd ra rb => Sys2Proof.Machine.execSubu32 rd ra rb s
  | .subui8 rd ra imm => Sys2Proof.Machine.execSubui8 rd ra imm s
  | .subui16 rd ra imm => Sys2Proof.Machine.execSubui16 rd ra imm s
  | .subui32 rd ra imm => Sys2Proof.Machine.execSubui32 rd ra imm s
  | .mul8 rd ra rb => Sys2Proof.Machine.execMul8 rd ra rb s
  | .mul16 rd ra rb => Sys2Proof.Machine.execMul16 rd ra rb s
  | .mul32 rd ra rb => Sys2Proof.Machine.execMul32 rd ra rb s
  | .muli8 rd ra imm => Sys2Proof.Machine.execMuli8 rd ra imm s
  | .muli16 rd ra imm => Sys2Proof.Machine.execMuli16 rd ra imm s
  | .muli32 rd ra imm => Sys2Proof.Machine.execMuli32 rd ra imm s
  | .mulu8 rd ra rb => Sys2Proof.Machine.execMulu8 rd ra rb s
  | .mulu16 rd ra rb => Sys2Proof.Machine.execMulu16 rd ra rb s
  | .mulu32 rd ra rb => Sys2Proof.Machine.execMulu32 rd ra rb s
  | .mului8 rd ra imm => Sys2Proof.Machine.execMului8 rd ra imm s
  | .mului16 rd ra imm => Sys2Proof.Machine.execMului16 rd ra imm s
  | .mului32 rd ra imm => Sys2Proof.Machine.execMului32 rd ra imm s
  | .div8 rd ra rb => Sys2Proof.Machine.execDiv8 rd ra rb s
  | .div16 rd ra rb => Sys2Proof.Machine.execDiv16 rd ra rb s
  | .div32 rd ra rb => Sys2Proof.Machine.execDiv32 rd ra rb s
  | .divi8 rd ra imm => Sys2Proof.Machine.execDivi8 rd ra imm s
  | .divi16 rd ra imm => Sys2Proof.Machine.execDivi16 rd ra imm s
  | .divi32 rd ra imm => Sys2Proof.Machine.execDivi32 rd ra imm s
  | .divu8 rd ra rb => Sys2Proof.Machine.execDivu8 rd ra rb s
  | .divu16 rd ra rb => Sys2Proof.Machine.execDivu16 rd ra rb s
  | .divu32 rd ra rb => Sys2Proof.Machine.execDivu32 rd ra rb s
  | .divui8 rd ra imm => Sys2Proof.Machine.execDivui8 rd ra imm s
  | .divui16 rd ra imm => Sys2Proof.Machine.execDivui16 rd ra imm s
  | .divui32 rd ra imm => Sys2Proof.Machine.execDivui32 rd ra imm s
  | .beq8 ra rb target => Sys2Proof.Machine.execBeq8 ra rb target s
  | .beq16 ra rb target => Sys2Proof.Machine.execBeq16 ra rb target s
  | .beq32 ra rb target => Sys2Proof.Machine.execBeq32 ra rb target s
  | .blt8 ra rb target => Sys2Proof.Machine.execBlt8 ra rb target s
  | .blt16 ra rb target => Sys2Proof.Machine.execBlt16 ra rb target s
  | .blt32 ra rb target => Sys2Proof.Machine.execBlt32 ra rb target s
  | .ble8 ra rb target => Sys2Proof.Machine.execBle8 ra rb target s
  | .ble16 ra rb target => Sys2Proof.Machine.execBle16 ra rb target s
  | .ble32 ra rb target => Sys2Proof.Machine.execBle32 ra rb target s
  | .bgt8 ra rb target => Sys2Proof.Machine.execBgt8 ra rb target s
  | .bgt16 ra rb target => Sys2Proof.Machine.execBgt16 ra rb target s
  | .bgt32 ra rb target => Sys2Proof.Machine.execBgt32 ra rb target s
  | .bge8 ra rb target => Sys2Proof.Machine.execBge8 ra rb target s
  | .bge16 ra rb target => Sys2Proof.Machine.execBge16 ra rb target s
  | .bge32 ra rb target => Sys2Proof.Machine.execBge32 ra rb target s
  | .bne8 ra rb target => Sys2Proof.Machine.execBne8 ra rb target s
  | .bne16 ra rb target => Sys2Proof.Machine.execBne16 ra rb target s
  | .bne32 ra rb target => Sys2Proof.Machine.execBne32 ra rb target s
  | .mvm src dst len => Sys2Proof.Machine.execMvm src dst len s
  | .clm addr len val => Sys2Proof.Machine.execClm addr len val s
  | .jmp target => Sys2Proof.Machine.execJmp target s
  | .call target => Sys2Proof.Machine.execCall target s
  | .ret => Sys2Proof.Machine.execRet s
  | .rint => Sys2Proof.Machine.execRint s

end Sys2Proof.Machine
end

