-- ==== Sys2Proof/Machine/Cpu.lean ====
section
/-! DEFINITION. The CPU's part of a cycle (40_execution_loop.md): fetch, cost, completion, interrupt entry. -/

namespace Sys2Proof.Machine

/-- `MemRead(pc, 1)`, the opcode fetch (R110). -/
def State.opcodeByte (s : State) : Byte := s.byteAt s.pc.toNat

/-- The bytes after the opcode, as many as the longest instruction has, each fetched at an address that wraps modulo `CAP`
(R113). -/
def State.argBytes (s : State) : List Byte :=
  (List.range (maxLength - 1)).map fun i => s.byteAt ((s.pc.toNat + 1 + i) % s.config.cap)

/-- `CostOf(op)`, taken in the cycle the opcode is fetched (R114), over a table of costs that goes by the spec's own opcode
bytes. -/
def costOf (cost : Byte → Nat) (s : State) (op : Byte) : Nat :=
  if knownOpcode s.config op then
    if s.config.opcode op = 0x00 then 1
    else if s.config.opcode op = 0x01 then max 1 (s.byteAt ((s.pc.toNat + 1) % s.config.cap)).toNat
    else cost (s.config.opcode op)
  else 1

/-- What follows the `Exec` block of a known instruction: the step to the next opcode, then interrupt entry (R111). -/
def finishKnown : Host.Outcome State Fault Refusal → Host.Outcome State Fault Refusal
  | .next t => .next t.nextOpcode.takeInterrupt
  | .fault f => .fault f
  | .refused r => .refused r

/-- `Complete(op)`: a known instruction executes (R111); an unknown opcode advances `pc` by 1, changes nothing else and does
not examine the latch (R112). The opcode was fetched in the first cycle; the arguments are fetched now (D18). -/
def complete (op : Byte) (s : State) : Host.Outcome State Fault Refusal :=
  match decodeIn s.config (op :: s.argBytes) with
  | .ok i => finishKnown (exec i s)
  | .error _ => .next s.nextOpcode

/-- The opcode of the instruction the CPU works on in this cycle: fetched now when none is in flight (R110). -/
def State.currentOpcode (s : State) : Byte := if s.crem = 0 then s.opcodeByte else s.cop

/-- The cycles still to spend after this one (R110). -/
def cyclesLeft (cost : Byte → Nat) (s : State) : Nat :=
  (if s.crem = 0 then costOf cost s s.opcodeByte else s.crem) - 1

/-- `CpuCycle` (R110), over a table of costs. -/
def cpuCycle (cost : Byte → Nat) (s : State) : Host.Outcome State Fault Refusal :=
  if cyclesLeft cost s = 0 then complete s.currentOpcode { s with cop := s.currentOpcode, crem := 0 }
  else .next { s with cop := s.currentOpcode, crem := cyclesLeft cost s }

/-- The instruction-level view of R116: one whole instruction, whatever it costs. -/
def instructionStep (s : State) : Host.Outcome State Fault Refusal :=
  complete s.opcodeByte { s with cop := s.opcodeByte }

end Sys2Proof.Machine
end

