-- ==== Sys2Proof/Machine/Video.lean ====
section
/-! DEFINITION. The raster video generator (60_exceptions.md, section 4), over its parameters. -/

namespace Sys2Proof.Machine

/-- `cycles_per_frame`: "clock_rate / 30 truncates" (R332). -/
def cyclesPerFrame (v : VideoParams) : Nat := v.clockRate / 30

/-- `cycles_per_vblank`: what the active area leaves of a frame (R332). -/
def cyclesPerVblank (v : VideoParams) : Nat :=
  cyclesPerFrame v - v.displayW * v.displayH * 2 - v.displayH * 12

/-- `cycles_per_fps_sync`: the residual of a second (R332). -/
def cyclesPerSync (v : VideoParams) : Nat := v.clockRate - cyclesPerFrame v * 30

/-- A byte of VRAM by offset; 0 past the module, for `TileBit` may read `M` inside VRAM only (R338, D27). -/
def State.vramByte (s : State) (o : Nat) : Byte := if o < s.config.vramSize then s.byteAt (s.config.vramBase + o) else 0

/-- The mode byte 1 is character mode, every other value block mode (R33, D27). -/
def State.characterMode (s : State) : Bool := decide (s.vramByte 0 = 1)

/-- Character mode leaves `CHAR_H_OFFSET` columns at both edges to the background (R338). -/
def borderPixel (v : VideoParams) (s : State) (x : Nat) : Bool :=
  s.characterMode && (decide (x < v.charHOffset) || decide (v.displayW - v.charHOffset ≤ x))

/-- Whether a pixel takes the foreground palette: not in the border, the active bank one of the banks, and the tile's bit
1 (R338, D27). -/
def foregroundPixel (v : VideoParams) (s : State) (x y : Nat) : Bool :=
  !borderPixel v s x && decide ((s.vramByte 7).toNat < v.tileBanks) &&
    v.tileBit s.vramByte s.characterMode (s.vramByte 7) x y

/-- `PixelRGBA(x, y)`: the palette's three bytes and full alpha (R338). -/
def pixelRGBA (v : VideoParams) (s : State) (x y : Nat) : List Byte :=
  if foregroundPixel v s x y then [s.vramByte 4, s.vramByte 5, s.vramByte 6, 255]
  else [s.vramByte 1, s.vramByte 2, s.vramByte 3, 255]

/-- The bytes of the frame buffer (R38). -/
def frameBytes (v : VideoParams) : Nat := v.displayW * v.displayH * 4

/-- Pixel unit (R334). -/
def pixelUnit (v : VideoParams) (s : State) : State :=
  { s with
    fb := Memory.store (fun _ => 0) (frameBytes v) s.fb ((s.vy * v.displayW + s.vx) * 4) (pixelRGBA v s s.vx s.vy)
    vrem := 2
    vx := if s.vx + 1 = v.displayW then 0 else s.vx + 1
    vphase := if s.vx + 1 = v.displayW then .hblank else .pixel }

/-- A 16-bit interrupt vector, read live from memory (R310). -/
def State.vector (s : State) (a : Nat) : Addr := s.memRead a .w16

/-- H-blank unit (R335). -/
def hblankUnit (v : VideoParams) (s : State) : State :=
  { s.request (s.vector (s.config.vramBase + 10)) with
    vrem := 12
    vy := if s.vy + 1 = v.displayH then 0 else s.vy + 1
    vphase := if s.vy + 1 = v.displayH then .vblank else .pixel }

/-- V-blank unit (R336). -/
def vblankUnit (v : VideoParams) (s : State) : State :=
  { s.request (s.vector (s.config.vramBase + 12)) with
    vrem := cyclesPerVblank v
    vframe := if s.vframe + 1 = 30 then 0 else s.vframe + 1
    vphase := if s.vframe + 1 = 30 then .sync else .pixel }

/-- Sync unit (R337). -/
def syncUnit (v : VideoParams) (s : State) : State :=
  { s.request (s.vector (s.config.vramBase + 8)) with
    vrem := cyclesPerSync v
    vphase := .pixel }

/-- `VideoUnit()`: the unit `vphase` names (R333). -/
def videoUnit (v : VideoParams) (s : State) : State :=
  match s.vphase with
  | .pixel => pixelUnit v s
  | .hblank => hblankUnit v s
  | .vblank => vblankUnit v s
  | .sync => syncUnit v s

/-- "start units of work until one has a non-zero cost" (R333), at most as many as the first argument says. -/
def startUnits (v : VideoParams) : Nat → State → State
  | 0, s => s
  | n + 1, s => if s.vrem = 0 then startUnits v n (videoUnit v s) else s

/-- The longest chain of units in one cycle: a v-blank of cost 0, a sync of cost 0, a pixel (R333: "the loop ends because a
pixel unit always costs 2"). -/
def maxUnits : Nat := 3

/-- `VideoCycle` (R333). -/
def videoCycle (v : VideoParams) (s : State) : State :=
  { startUnits v maxUnits s with vrem := (startUnits v maxUnits s).vrem - 1 }

end Sys2Proof.Machine
end

