-- ==== Sys2Proof/Machine/Console.lean ====
section
/-! DEFINITION. The console: the keyboard mapper, the arbiter, one whole cycle (60_exceptions.md, sections 5 and 6), and
what the host does between cycles (60_exceptions.md R341 to R350; 70_reset_and_hazards.md R380 to R384). -/

namespace Sys2Proof.Machine

/-- `KeyboardCycle`: a dirty mapper requests its vector, even 0, and is clean again (R351). -/
def keyboardCycle (s : State) : State :=
  { s with
    iq := if s.kdirty then (s.request (s.vector s.config.keyramBase)).iq else s.iq
    kdirty := false }

/-- `Arbitrate`: the front of the queue is offered to the CPU once, popped on success, and then pauses the console when the
host asked for that (R343). -/
def arbitrate (pauseOnInterrupt : Bool) (s : State) : State :=
  match s.iq with
  | [] => s
  | front :: rest =>
    match s.interrupt front with
    | (t, true) => { t with iq := rest, paused := pauseOnInterrupt || t.paused }
    | (_, false) => s

/-- What follows the CPU's phase in a cycle: video generator, arbitration, tick (R340). -/
def finishCycle (v : VideoParams) (pauseOnInterrupt : Bool) (s : State) : State :=
  { arbitrate pauseOnInterrupt (videoCycle v s) with tick := s.tick + 1 }

/-- One cycle of the whole block, in the fixed order keyboard, CPU, video generator, arbitration (R340), over the open
parameters. -/
def cycle (cost : Byte → Nat) (v : VideoParams) (pauseOnInterrupt : Bool) (s : State) :
    Host.Outcome State Fault Refusal :=
  match cpuCycle cost (keyboardCycle s) with
  | .next t => .next (finishCycle v pauseOnInterrupt t)
  | .fault f => .fault f
  | .refused r => .refused r

/-! ### The host between cycles -/

/-- `set_key(code, is_down)` (R350). -/
def State.setKey (s : State) (code : Byte) (isDown : Bool) : State :=
  { (s.storeBytes (s.config.keyramBase + 8 + code.toNat) [if isDown then 255 else 0]).storeBytes (s.config.keyramBase + 2)
      [code] with kdirty := true }

/-- `CpuReset()` (R383). -/
def State.cpuReset (s : State) : State :=
  { s with regs := Vector.replicate 16 0, pc := 0, mem := 0, ret := 0, int := 0, ilatch := 0, crem := 0 }

/-- `load_program(bytes, addr)`: it ends with "resumes" (R384). -/
def State.loadProgram (s : State) (bytes : List Byte) (addr : Addr) : State :=
  { (s.storeBytes addr.toNat bytes).cpuReset with pc := wrap s.config addr.toNat, paused := false }

/-- `reboot()`: memory as after power-on, the CPU reset, the queue emptied, the tick counter 0; the keyboard mapper, the video
generator and the frame buffer are not touched (R382). -/
def State.reboot (s : State) : State := { s.cpuReset with bus := [], iq := [], tick := 0, paused := false }

/-- One action of the host (R341). -/
def State.hostAction (s : State) : HostAction → State
  | .setKey code isDown => s.setKey code isDown
  | .loadProgram bytes addr => s.loadProgram bytes addr
  | .reboot => s.reboot
  | .pause => { s with paused := true }
  | .resume => { s with paused := false }

/-- The host's actions, one after the other. -/
def State.hostActions (s : State) (as : List HostAction) : State := as.foldl State.hostAction s

/-- The host's actions due before the coming cycle (R341; assumption log entry 10). -/
def State.takeHostActions (s : State) : State :=
  { s with host := s.host.tail }.hostActions (s.host.headD [])

/-- Bytes placed at consecutive addresses that wrap modulo `CAP`, where the CPU would fetch them (R113). -/
def State.placeBytes (s : State) (a : Nat) : List Byte → State
  | [] => s
  | b :: bs => State.placeBytes (s.storeBytes (a % s.config.cap) [b]) (a + 1) bs

end Sys2Proof.Machine
end

