-- ==== Sys2Proof/Machine/Step.lean ====
section
/-! DEFINITION. One step of the machine is one virtual cycle (R340), after the host's actions due before it. -/

namespace Sys2Proof.Machine

/-- One virtual cycle of this machine (R340, R341). -/
def step (s : State) : Host.Outcome State Fault Refusal :=
  cycle Config.cost Config.video Config.pauseOnInterrupt s.takeHostActions

/-- `advance(n)`: `n` cycles (R341). -/
def advance : Nat → State → Host.Outcome State Fault Refusal
  | 0, s => .next s
  | n + 1, s =>
    match step s with
    | .next t => advance n t
    | .fault f => .fault f
    | .refused r => .refused r

/-- `s` in the last cycle of an instruction whose bits are `w` (every bit above `nbits` zero) and whose bytes stand at
`pc`: its opcode has been fetched and one cycle of its cost is left, so the very next step completes it whatever it
costs; the host does nothing before that step (assumption log entry 11). -/
def State.withFetchWord (s : State) (nbits w : Nat) : State :=
  { s.placeBytes s.pc.toNat (leBytes maxLength (w % 2 ^ nbits)) with
    cop := (leBytes maxLength (w % 2 ^ nbits)).headD 0
    crem := 1
    host := s.host.modifyHead fun _ => [] }

end Sys2Proof.Machine
end

