-- ==== Sys2Proof/Safety.lean ====
section
/-! DEFINITION. The terms the statements about the machine are written in: what a legal state is, what a step leaves
unchanged, and the operand policy of R94 over whole instructions. -/

namespace Sys2Proof.Safety

open Sys2Proof.Machine

/-! ### Arithmetic in the spec's notation -/

/-- `trunc_W(x)` for any integer: `x mod 2^W` (R8). -/
def trunc (w : Nat) (x : Int) : BitVec w := BitVec.ofInt w x

/-- An operation of two sources, when both are valid (R141). -/
def both {n m : Nat} (f : BitVec n → BitVec n → BitVec m) (a b : Option (BitVec n)) : Option (BitVec m) :=
  a.bind fun x => b.map fun y => f x y

/-- An operation of one source, when it is valid. -/
def one {n m : Nat} (f : BitVec n → BitVec m) (a : Option (BitVec n)) : Option (BitVec m) := a.map f

/-! ### What stays the same -/

/-- Every general register keeps its value. -/
def SameRegs (s t : State) : Prop := ∀ m, m < 16 → t.reg m = s.reg m

/-- Every byte of memory keeps its value. -/
def SameMemory (s t : State) : Prop := ∀ a, t.byteAt a = s.byteAt a

/-- `mem`, `ret` and `int` keep their values. -/
def SameSpecials (s t : State) : Prop := t.mem = s.mem ∧ t.ret = s.ret ∧ t.int = s.int

/-- Everything that is neither a register nor memory keeps its value: the latch, the instruction in flight, the queue, the
devices, the frame buffer, the bookkeeping, the host's coming actions and the configuration. -/
def SameHidden (s t : State) : Prop :=
  t.ilatch = s.ilatch ∧ t.crem = s.crem ∧ t.cop = s.cop ∧ t.iq = s.iq ∧ t.kdirty = s.kdirty ∧ t.vy = s.vy ∧ t.vx = s.vx ∧
    t.vphase = s.vphase ∧ t.vframe = s.vframe ∧ t.vrem = s.vrem ∧ t.fb = s.fb ∧ t.tick = s.tick ∧ t.paused = s.paused ∧
    t.host = s.host ∧ t.config = s.config

/-- `pc` stands on the last of `args` argument bytes (R113). -/
def AfterArgs (s t : State) (args : Nat) : Prop := t.pc.toNat = (s.pc.toNat + args) % s.config.cap

/-- A register number is one of those a `W`-bit result of `rd` is written to. -/
def Covers (rd : Operand) (w : Width) (m : Nat) : Prop := ∃ n, gbase rd w = some n ∧ n ≤ m ∧ m < n + w.bytes

/-- From `s` to `t` an instruction with `args` argument bytes wrote `v` to the target `rd` and did nothing else: when the
target and the value are valid the registers of the target hold the value, every other register keeps its own, and when
either is invalid every register does (R93, R94, R119). -/
structure Wrote (s t : State) (args : Nat) (rd : Operand) (w : Width) (v : Option (BitVec w.bits)) : Prop where
  value : ∀ n x, gbase rd w = some n → v = some x → t.gread n w = x
  others : ∀ m, m < 16 → ¬Covers rd w m → t.reg m = s.reg m
  inert : v = none → SameRegs s t
  pc : AfterArgs s t args
  memory : SameMemory s t
  specials : SameSpecials s t
  hidden : SameHidden s t

/-- From `s` to `t` an instruction with `args` argument bytes changed memory only: a byte it reaches is what `new` says, and
every other byte keeps its value. -/
structure Stored (s t : State) (args : Nat) (new : Nat → Option Byte) : Prop where
  stored : ∀ a b, new a = some b → t.byteAt a = b
  others : ∀ a, new a = none → t.byteAt a = s.byteAt a
  regs : SameRegs s t
  pc : AfterArgs s t args
  specials : SameSpecials s t
  hidden : SameHidden s t

/-- From `s` to `t` an instruction with `args` argument bytes moved the memory pointer to `p` and did nothing else: nothing is
stored through it (R200). -/
structure MovedPointer (s t : State) (args : Nat) (p : Addr) : Prop where
  mem : t.mem = p
  regs : SameRegs s t
  pc : AfterArgs s t args
  memory : SameMemory s t
  ret : t.ret = s.ret
  int : t.int = s.int
  hidden : SameHidden s t

/-- From `s` to `t` an instruction made the next opcode fetch happen at `next` (R111, R115) and changed no general register,
no memory and nothing hidden; `mem` keeps its value. -/
structure Went (s t : State) (next : Nat) : Prop where
  pc : t.nextOpcode.pc.toNat = next
  regs : SameRegs s t
  memory : SameMemory s t
  mem : t.mem = s.mem
  hidden : SameHidden s t

/-- A comparison of two sources as unsigned numbers, when both are valid (R241). -/
def holds {n : Nat} (c : Nat → Nat → Bool) (a b : Option (BitVec n)) : Bool :=
  (a.bind fun x => b.map fun y => c x.toNat y.toNat).getD false

/-- Where a branch goes on: at its target when it is taken, and else after its fifth byte (R240). -/
def branchNext (s : State) (taken : Bool) (target : Addr) : Nat :=
  if taken then target.toNat % s.config.cap else (s.pc.toNat + 5) % s.config.cap

/-! ### Stores -/

/-- The bytes a store of `v` puts at an address: those of the `W/8` bytes from `addr` on that lie below `CAP`, least
significant first (R56, R57). -/
def storedByte (cap addr : Nat) (w : Width) (v : BitVec w.bits) (a : Nat) : Option Byte :=
  if addr ≤ a ∧ a < addr + w.bytes ∧ a < cap then some (v.extractLsb' (8 * (a - addr)) 8) else none

/-! ### The operand policy of R94 -/

/-- A source of the width: `nil`, or a general register with a legal base (R92). -/
def sourceOK (o : Operand) (w : Width) : Bool := decide (o = .nil) || (gbase o w).isSome

/-- A source of `mov16` (R92). -/
def sourceOK16S (o : Operand) : Bool :=
  decide (o = .pc) || decide (o = .mem) || decide (o = .ret) || decide (o = .int) || sourceOK o .w16

/-- A destination of the load-immediate instructions (R200). -/
def targetOrMem (o : Operand) (w : Width) : Bool := decide (o = .mem) || (gbase o w).isSome

/-- A destination of the width (R93). -/
def target (o : Operand) (w : Width) : Bool := (gbase o w).isSome

/-- Every operand of the instruction is one the table of R94 accepts in its position. -/
def operandsOK : Instr → Bool
  | .and ra rb | .or ra rb | .xor ra rb => target ra .w8 && sourceOK rb .w8
  | .not ra | .andi ra _ | .ori ra _ | .xori ra _ | .shl ra _ | .shr ra _ => target ra .w8
  | .li8 ra _ | .lui8 ra _ => targetOrMem ra .w8
  | .li16 ra _ | .lui16 ra _ => targetOrMem ra .w16
  | .li32 ra _ | .lui32 ra _ => targetOrMem ra .w32
  | .lm8 ra => target ra .w8
  | .lm16 ra => target ra .w16
  | .lm32 ra => target ra .w32
  | .sm8 ra => sourceOK ra .w8
  | .sm16 ra => sourceOK ra .w16
  | .sm32 ra => sourceOK ra .w32
  | .mov8 ra rb => target ra .w8 && sourceOK rb .w8
  | .mov16 ra rb => target ra .w16 && sourceOK16S rb
  | .mov32 ra rb => target ra .w32 && sourceOK rb .w32
  | .add8 rd ra rb | .addu8 rd ra rb | .sub8 rd ra rb | .subu8 rd ra rb | .mul8 rd ra rb | .mulu8 rd ra rb
  | .div8 rd ra rb | .divu8 rd ra rb => target rd .w8 && sourceOK ra .w8 && sourceOK rb .w8
  | .add16 rd ra rb | .addu16 rd ra rb | .sub16 rd ra rb | .subu16 rd ra rb | .mul16 rd ra rb | .mulu16 rd ra rb
  | .div16 rd ra rb | .divu16 rd ra rb => target rd .w16 && sourceOK ra .w16 && sourceOK rb .w16
  | .add32 rd ra rb | .addu32 rd ra rb | .sub32 rd ra rb | .subu32 rd ra rb | .mul32 rd ra rb | .mulu32 rd ra rb
  | .div32 rd ra rb | .divu32 rd ra rb => target rd .w32 && sourceOK ra .w32 && sourceOK rb .w32
  | .addi8 rd ra _ | .addui8 rd ra _ | .subi8 rd ra _ | .subui8 rd ra _ | .muli8 rd ra _ | .mului8 rd ra _
  | .divi8 rd ra _ | .divui8 rd ra _ => target rd .w8 && sourceOK ra .w8
  | .addi16 rd ra _ | .addui16 rd ra _ | .subi16 rd ra _ | .subui16 rd ra _ | .muli16 rd ra _ | .mului16 rd ra _
  | .divi16 rd ra _ | .divui16 rd ra _ => target rd .w16 && sourceOK ra .w16
  | .addi32 rd ra _ | .addui32 rd ra _ | .subi32 rd ra _ | .subui32 rd ra _ | .muli32 rd ra _ | .mului32 rd ra _
  | .divi32 rd ra _ | .divui32 rd ra _ => target rd .w32 && sourceOK ra .w32
  | .beq8 ra rb _ | .blt8 ra rb _ | .ble8 ra rb _ | .bgt8 ra rb _ | .bge8 ra rb _ | .bne8 ra rb _ =>
    sourceOK ra .w8 && sourceOK rb .w8
  | .beq16 ra rb _ | .blt16 ra rb _ | .ble16 ra rb _ | .bgt16 ra rb _ | .bge16 ra rb _ | .bne16 ra rb _ =>
    sourceOK ra .w16 && sourceOK rb .w16
  | .beq32 ra rb _ | .blt32 ra rb _ | .ble32 ra rb _ | .bgt32 ra rb _ | .bge32 ra rb _ | .bne32 ra rb _ =>
    sourceOK ra .w32 && sourceOK rb .w32
  | .nop | .nopi _ | .mvm _ _ _ | .clm _ _ _ | .jmp _ | .call _ | .ret | .rint => true

/-- The instructions that may write `mem` (R25). -/
def writesMem : Instr → Bool
  | .li8 .mem _ | .li16 .mem _ | .li32 .mem _ | .lui8 .mem _ | .lui16 .mem _ | .lui32 .mem _ => true
  | _ => false

/-- The instructions that may write memory (R62). -/
def writesMemory : Instr → Bool
  | .sm8 _ | .sm16 _ | .sm32 _ | .mvm _ _ _ | .clm _ _ _ => true
  | _ => false

/-- The opcode bytes that are assigned to no instruction, by the ranges of R88. -/
def unassignedOpcodes : List Nat :=
  List.flatten [List.range' 0x02 14, [0x17], List.range' 0x1A 6, [0x23], List.range' 0x27 9, [0x33, 0x37], List.range' 0x3B 5,
    [0x43, 0x47, 0x4B, 0x4F, 0x53, 0x57, 0x5B, 0x5F, 0x63, 0x67, 0x6B, 0x6F, 0x73, 0x77, 0x7B, 0x7F, 0x83, 0x87, 0x8B,
      0x8F, 0x93], List.range' 0x97 9, List.range' 0xA2 14, List.range' 0xB4 76]

/-! ### Legal states -/

/-- The bus memory is in its canonical form; every state the machine reaches is so (`Inv`). -/
def canonical (s : State) : Prop := Memory.wf s.config.resetByte s.config.cap s.bus = true

/-- What holds of every state the machine reaches: both memories in canonical form; `pc`, `ret` and `int` valid bus
addresses (R24, R26, R27); a legal scan position (R37); no request for address 0 in the queue (R35). -/
structure Inv (s : State) : Prop where
  bus : Memory.wf s.config.resetByte s.config.cap s.bus = true
  frame : Memory.wf (fun _ => 0) (frameBytes Config.video) s.fb = true
  pc : s.pc.toNat < s.config.cap
  ret : s.ret.toNat < s.config.cap
  int : s.int.toNat < s.config.cap
  column : s.vx < Config.video.displayW
  row : s.vy < Config.video.displayH
  frames : s.vframe < 30
  lineEnd : s.vphase ≠ .pixel → s.vx = 0
  frameEnd : s.vphase = .vblank ∨ s.vphase = .sync → s.vy = 0
  secondEnd : s.vphase = .sync → s.vframe = 0
  queue : (0 : Addr) ∉ s.iq

/-- `n` cycles of the CPU alone (R110), over a table of costs. -/
def cpuCycles (cost : Byte → Nat) : Nat → State → Host.Outcome State Fault Refusal
  | 0, s => .next s
  | n + 1, s =>
    match cpuCycle cost s with
    | .next t => cpuCycles cost n t
    | .fault f => .fault f
    | .refused r => .refused r

/-- `n` cycles of the video generator alone (R333). -/
def videoCycles (v : VideoParams) : Nat → State → State
  | 0, s => s
  | n + 1, s => videoCycles v n (videoCycle v s)

/-- An instruction together with what the loop does after it: the step to the next opcode and interrupt entry (R111). -/
def completed (i : Instr) (s : State) : Host.Outcome State Fault Refusal := finishKnown (exec i s)

end Sys2Proof.Safety
end

