-- ==== Sys2Proof/Certificates/Slice0/Obligations.lean ====
section
/-! DEFINITION. The statements about the machine, for the provers. Each docstring says what the statement says; the rules it
formalises or rests on are in OBLIGATIONS.json. Where a statement rests on a decision of the spec or of the model, its
docstring names it. -/

open Sys2Proof Sys2Proof.Machine Sys2Proof.Safety

/-- Under every numbering of opcodes and registers a configuration may have: for every well-formed instruction, with every
operand at every value its encoding admits, decoding its bytes, whatever follows them, gives the instruction. The
spec's own numbers are its decisions D1 and D2, and a configuration renumbers them by exchanges (assumption log entry
2). -/
def Obligations.DecodeInvertsEncode : Prop :=
  ∀ (c : Configuration) (i : Instr) (rest : List Byte), i.wellFormed = true →
    decodeIn c (encodeIn c i ++ rest) = .ok i

/-- Under every numbering a configuration may have: when bytes decode to an instruction, the instruction is well-formed
and the bytes are its encoding followed by some rest: no bit of an opcode or an operand byte is ignored. The spec's
own numbers are its decisions D1 and D2, and a configuration renumbers them by exchanges (assumption log entry 2). -/
def Obligations.EncodeInvertsDecode : Prop :=
  ∀ (c : Configuration) (bs : List Byte) (i : Instr), decodeIn c bs = .ok i →
    i.wellFormed = true ∧ ∃ rest, bs = encodeIn c i ++ rest

/-- Under every numbering a configuration may have: two byte lists that begin with the same opcode byte and both decode
give instructions of the same length, and that length is from 1 to 7 bytes. -/
def Obligations.LengthFromOpcodeByte : Prop :=
  ∀ (c : Configuration) (op : Byte) (xs ys : List Byte) (i j : Instr), decodeIn c (op :: xs) = .ok i →
    decodeIn c (op :: ys) = .ok j →
    (encodeIn c i).length = (encodeIn c j).length ∧ 1 ≤ (encodeIn c i).length ∧ (encodeIn c i).length ≤ 7

/-- One word of each family, copied from the examples of the spec, decodes to the instruction the spec spells beside it.
The numbers are the decisions D1 and D2 of the spec (assumption log entry 2). -/
def Obligations.SpecWordsDecode : Prop :=
  decode [0x01, 0x05] = .ok (.nopi 5) ∧
  decode [0x13, 0x12] = .ok (.not (.gen 2)) ∧
  decode [0x19, 0x10, 0x03] = .ok (.shr (.gen 0) 3) ∧
  decode [0x22, 0x02, 0xC8, 0x97, 0xCD, 0xAB] = .ok (.li32 .mem 0xABCD97C8) ∧
  decode [0x31, 0x10] = .ok (.lm16 (.gen 0)) ∧
  decode [0x39, 0x14, 0x03] = .ok (.mov16 (.gen 4) .ret) ∧
  decode [0x40, 0x12, 0x10, 0x11] = .ok (.add8 (.gen 2) (.gen 0) (.gen 1)) ∧
  decode [0x4E, 0x14, 0x00, 0xEF, 0xBE, 0xAD, 0xDE] = .ok (.addui32 (.gen 4) .nil 0xDEADBEEF) ∧
  decode [0x80, 0x10, 0x11, 0x40, 0x00] = .ok (.beq8 (.gen 0) (.gen 1) 0x0040) ∧
  decode [0xA0, 0xCE, 0x98, 0x00, 0x00, 0x08] = .ok (.mvm 0x98CE 0x0000 8) ∧
  decode [0xA1, 0x01, 0x80, 0x03, 0xFF] = .ok (.clm 0x8001 3 0xFF) ∧
  decode [0xB1, 0x00, 0x01] = .ok (.call 0x0100) ∧
  decode [0xB3] = .ok .rint

/-- The operand bytes 0x00 to 0x04 name nil, pc, mem, ret and int, the byte 0x10 + n names r[n] for the sixteen n, and
every other byte names no register. The numbers are the spec's decision D2 (assumption log entry 2). -/
def Obligations.OperandBytesNameRegisters : Prop :=
  Operand.ofByte 0x00 = .nil ∧ Operand.ofByte 0x01 = .pc ∧ Operand.ofByte 0x02 = .mem ∧ Operand.ofByte 0x03 = .ret ∧
  Operand.ofByte 0x04 = .int ∧ (∀ n : Fin 16, Operand.ofByte (BitVec.ofNat 8 (0x10 + n.val)) = .gen n) ∧
  ∀ b : Byte, 0x04 < b.toNat → (b.toNat < 0x10 ∨ 0x1F < b.toNat) → Operand.ofByte b = .unassigned b

/-- Under the spec's own numbering the unknown opcode bytes are exactly those the spec lists, and there are 98 known ones;
under another, those that stand for such a byte. When no instruction is in flight and the byte at pc is an unknown
opcode, the CPU's one cycle leaves every register but pc, all memory, the interrupt latch and everything else
unchanged and advances pc by 1 modulo CAP, for every table of costs. That the latch is not examined is the spec's
decision D22 (assumption log entry 24). -/
def Obligations.UnknownOpcodeOnlyAdvances : Prop :=
  (∀ op : Byte, knownOpcode Configuration.reference op = false ↔ op.toNat ∈ Safety.unassignedOpcodes) ∧
  (∀ (c : Configuration) (op : Byte), knownOpcode c op = false ↔ (original c.opmap op).toNat ∈ Safety.unassignedOpcodes) ∧
  Safety.unassignedOpcodes.length = 158 ∧
  ((List.range 256).filter fun n => knownOpcode Configuration.reference (BitVec.ofNat 8 n)).length = 98 ∧
  ∀ (cost : Byte → Nat) (s : State), s.crem = 0 → knownOpcode s.config s.opcodeByte = false →
    costOf cost s s.opcodeByte = 1 ∧
    ∃ t, cpuCycle cost s = .next t ∧ t.pc.toNat = (s.pc.toNat + 1) % s.config.cap ∧ SameRegs s t ∧ SameMemory s t ∧
      SameSpecials s t ∧ t.crem = 0 ∧ SameHidden { s with cop := s.opcodeByte } t

/-- At every width a general register is a legal base exactly when its number is a multiple of W/8, and the view then
stays inside the sixteen registers. nil gives 0 as a source, a legal general register gives its value, and everything
else is invalid, but for mov16, to which pc, mem, ret and int give their values. The writable targets are exactly the
legal general registers. The legal bases (R91) are the spec's decision D3 (assumption log entry 16). -/
def Obligations.SourceAndDestinationOperands : Prop :=
  (∀ (o : Operand) (w : Width) (n : Nat), gbase o w = some n ↔ ∃ r : Fin 16, o = .gen r ∧ r.val = n ∧ n % w.bytes = 0) ∧
  (∀ (o : Operand) (w : Width) (n : Nat), gbase o w = some n → n + w.bytes ≤ 16) ∧
  (∀ (s : State) (w : Width), s.srcVal .nil w = some 0) ∧
  (∀ (s : State) (o : Operand) (w : Width) (n : Nat), gbase o w = some n → s.srcVal o w = some (s.gread n w)) ∧
  (∀ (s : State) (o : Operand) (w : Width), o ≠ .nil → gbase o w = none → s.srcVal o w = none) ∧
  (∀ s : State, s.srcVal16S .pc = some s.pc ∧ s.srcVal16S .mem = some s.mem ∧ s.srcVal16S .ret = some s.ret ∧
    s.srcVal16S .int = some s.int) ∧
  (∀ (s : State) (o : Operand), o ≠ .pc → o ≠ .mem → o ≠ .ret → o ≠ .int → s.srcVal16S o = s.srcVal o .w16) ∧
  ∀ (o : Operand) (w : Width), dstOK o w = true ↔ ∃ n, gbase o w = some n

/-- A write of a W-bit value at a base register changes exactly the W/8 byte registers it covers, each to its byte of the
value, least significant first; reading the view back gives the value; a read of a view gives the bytes of the
registers it covers; nothing but those registers changes. -/
def Obligations.RegisterViewsAliasBytes : Prop :=
  ∀ (s : State) (n : Nat) (w : Width) (v : BitVec w.bits), n + w.bytes ≤ 16 →
    (s.gwrite n w v).gread n w = v ∧
    (∀ i, i < w.bytes → (s.gwrite n w v).reg (n + i) = v.extractLsb' (8 * i) 8) ∧
    (∀ m, m < 16 → (m < n ∨ n + w.bytes ≤ m) → (s.gwrite n w v).reg m = s.reg m) ∧
    (∀ i, i < w.bytes → (s.gread n w).extractLsb' (8 * i) 8 = s.reg (n + i)) ∧
    (s.gwrite n w v).pc = s.pc ∧ SameMemory s (s.gwrite n w v) ∧ SameSpecials s (s.gwrite n w v) ∧
    SameHidden s (s.gwrite n w v)

/-- Byte i of a W-bit read at any address, aligned or not, is the byte of memory at the address plus i, and 0 when that
lies at or above CAP: a data access never wraps. That a byte at or above CAP reads 0 is also the spec's decision D16
(assumption log entry 20). -/
def Obligations.ScalarReadsAreLittleEndian : Prop :=
  ∀ (s : State) (a : Nat) (w : Width) (i : Nat), i < w.bytes →
    (s.memRead a w).extractLsb' (8 * i) 8 = s.byteAt (a + i) ∧ (s.config.cap ≤ a + i → s.byteAt (a + i) = 0) ∧
    (a + i < s.config.cap → s.byteAt (a + i) = Memory.read s.config.resetByte s.bus (a + i))

/-- Under every configuration, with memory in canonical form: an address in a module has that module's read-only flag; a
W-bit write at or above CAP, or whose first byte's owning module is read-only, changes nothing; every other one stores
its bytes below CAP, least significant first, and changes no other byte; read back at the same width below CAP it
gives the value written. No register and nothing hidden changes. That the first byte's module decides is the spec's
decision D17, and that the bytes at or above CAP are dropped its decision D16 (assumption log entries 20 and 21). -/
def Obligations.ScalarWritesHonourOwnerAndCap : Prop :=
  ∀ (s : State) (a : Nat) (w : Width) (v : BitVec w.bits), canonical s →
    (∀ m ∈ s.config.modules, m.owns a = true → s.config.readOnly a = m.readOnly) ∧
    (s.config.cap ≤ a → s.memWrite a w v = s) ∧
    (s.config.readOnly a = true → s.memWrite a w v = s) ∧
    (a < s.config.cap → s.config.readOnly a = false →
      ∀ x, (s.memWrite a w v).byteAt x = (storedByte s.config.cap a w v x).getD (s.byteAt x)) ∧
    (a + w.bytes ≤ s.config.cap → s.config.readOnly a = false → (s.memWrite a w v).memRead a w = v) ∧
    SameRegs s (s.memWrite a w v) ∧ SameSpecials s (s.memWrite a w v) ∧ SameHidden s (s.memWrite a w v) ∧
    (s.memWrite a w v).pc = s.pc

/-- Under every configuration: the list of modules is not empty, every start and capacity is a multiple of 4, the
capacities add up to CAP, which is from 4 to 65536; every address below CAP lies in exactly one module, its owner, and
an address at or above CAP in none. Building fails for a list that is empty, for one with a misaligned start or
capacity, and for one in which two modules have an address in common. The reference layout builds, its CAP is 39120,
and it has no read-only module. The bounds of CAP are the spec's decision D32; the reference layout has the key-RAM
capacity of 90_conflicts.md C1 (assumption log entry 1). -/
def Obligations.ModulesTileTheBus : Prop :=
  (∀ c : Configuration, c.modules ≠ [] ∧ (∀ m ∈ c.modules, m.start % 4 = 0 ∧ m.capacity % 4 = 0) ∧
    (c.modules.map Module.capacity).sum = c.cap ∧ 4 ≤ c.cap ∧ c.cap ≤ 65536 ∧
    (∀ a, a < c.cap → ∃ m ∈ c.modules, m.owns a = true ∧ c.owner a = some m ∧
      ∀ m' ∈ c.modules, m'.owns a = true → m' = m) ∧
    ∀ a, c.cap ≤ a → c.owner a = none) ∧
  (∀ l : Layout, l.modules = [] → l.build = none) ∧
  (∀ (l : Layout) (m : Module), m ∈ l.modules → (m.start % 4 ≠ 0 ∨ m.capacity % 4 ≠ 0) → l.build = none) ∧
  (∀ (l : Layout) (m n : Module) (xs ys zs : List Module) (a : Nat), l.modules = xs ++ m :: ys ++ n :: zs →
    m.owns a = true → n.owns a = true → l.build = none) ∧
  Layout.reference.build = some Configuration.reference ∧ Configuration.reference.cap = 39120 ∧
  ∀ a, Configuration.reference.readOnly a = false

/-- nop (byte 00) costs 1 cycle under every table of costs, its Exec block changes nothing, pc included, and the next
opcode is fetched one byte on, modulo CAP; nopi (bytes 01 imm8) consumes its argument byte, whatever its value,
changes nothing else, and the next opcode is fetched two bytes on, modulo CAP. Both complete in every state. -/
def Obligations.NopFormsOnlyAdvance : Prop :=
  (encode .nop = [0x00] ∧ ∀ (cost : Byte → Nat) (s : State) (op : Byte), s.config.opcode op = 0x00 → costOf cost s op = 1) ∧
  (∀ s : State, exec .nop s = .next s ∧ s.nextOpcode.pc.toNat = (s.pc.toNat + 1) % s.config.cap) ∧
  ∀ (imm : Byte) (s : State), encode (.nopi imm) = [0x01, imm] ∧
    ∃ t, exec (.nopi imm) s = .next t ∧ AfterArgs s t 1 ∧ t.nextOpcode.pc.toNat = (s.pc.toNat + 2) % s.config.cap ∧
      SameRegs s t ∧ SameMemory s t ∧ SameSpecials s t ∧ SameHidden s t

/-- For every state and operands, and, or and xor complete; when ra is a general register and rb a general register or
nil, ra receives the bit-by-bit result and no other register changes; with any other operand no register changes. pc
stands on the last of the two argument bytes; memory, mem, ret, int and everything hidden are unchanged. -/
def Obligations.BitwiseRegisterResults : Prop :=
  ∀ (s : State) (ra rb : Operand),
    (encode (.and ra rb) = [0x10, ra.toByte, rb.toByte] ∧
      ∃ t, exec (.and ra rb) s = .next t ∧ Wrote s t 2 ra .w8 (both (fun a b => a &&& b) (s.srcVal ra .w8) (s.srcVal rb .w8))) ∧
    (encode (.or ra rb) = [0x11, ra.toByte, rb.toByte] ∧
      ∃ t, exec (.or ra rb) s = .next t ∧ Wrote s t 2 ra .w8 (both (fun a b => a ||| b) (s.srcVal ra .w8) (s.srcVal rb .w8))) ∧
    (encode (.xor ra rb) = [0x12, ra.toByte, rb.toByte] ∧
      ∃ t, exec (.xor ra rb) s = .next t ∧ Wrote s t 2 ra .w8 (both (fun a b => a ^^^ b) (s.srcVal ra .w8) (s.srcVal rb .w8)))

/-- For every state and operands, not, andi, ori and xori complete; when ra is a general register it receives 255 minus
its value, or its value combined bit by bit with the immediate, and no other register changes; with any other ra no
register changes. The argument bytes are consumed; memory, mem, ret, int and everything hidden are unchanged. -/
def Obligations.BitwiseOneRegisterResults : Prop :=
  ∀ (s : State) (ra : Operand) (imm : Byte),
    (encode (.not ra) = [0x13, ra.toByte] ∧
      ∃ t, exec (.not ra) s = .next t ∧ Wrote s t 1 ra .w8 (one (fun a => trunc 8 (255 - (a.toNat : Int))) (s.srcVal ra .w8))) ∧
    (encode (.andi ra imm) = [0x14, ra.toByte, imm] ∧
      ∃ t, exec (.andi ra imm) s = .next t ∧ Wrote s t 2 ra .w8 (one (fun a => a &&& imm) (s.srcVal ra .w8))) ∧
    (encode (.ori ra imm) = [0x15, ra.toByte, imm] ∧
      ∃ t, exec (.ori ra imm) s = .next t ∧ Wrote s t 2 ra .w8 (one (fun a => a ||| imm) (s.srcVal ra .w8))) ∧
    (encode (.xori ra imm) = [0x16, ra.toByte, imm] ∧
      ∃ t, exec (.xori ra imm) s = .next t ∧ Wrote s t 2 ra .w8 (one (fun a => a ^^^ imm) (s.srcVal ra .w8)))

/-- For every state and operands, shl and shr complete; when ra is a general register it receives its value times, or
divided by, 2 to the count, cut to 8 bits, and 0 for a count of 8 or more; no other register changes. With any other
ra no register changes. Both argument bytes are consumed; memory, mem, ret, int and everything hidden are unchanged. A
count of 8 to 255 gives 0 by the spec's decision D10 (assumption log entry 14). -/
def Obligations.ShiftResults : Prop :=
  ∀ (s : State) (ra : Operand) (imm : Byte),
    (encode (.shl ra imm) = [0x18, ra.toByte, imm] ∧
      ∃ t, exec (.shl ra imm) s = .next t ∧ Wrote s t 2 ra .w8 (one (fun a => if imm.toNat < 8 then trunc 8 ((a.toNat : Int) * 2 ^ imm.toNat) else 0) (s.srcVal ra .w8))) ∧
    (encode (.shr ra imm) = [0x19, ra.toByte, imm] ∧
      ∃ t, exec (.shr ra imm) s = .next t ∧ Wrote s t 2 ra .w8 (one (fun a => if imm.toNat < 8 then trunc 8 ((a.toNat : Int) / 2 ^ imm.toNat) else 0) (s.srcVal ra .w8)))

/-- For every state and operands the twelve additions complete. When the destination is a general-register target of the
width and the sources are general registers of the width or nil (or the immediate), the target receives the result and
no other register changes; with any other operand no register changes. All argument bytes are consumed; memory, mem,
ret, int and everything hidden are unchanged. The result is the exact sum modulo 2 to the W, the operands read as
signed or unsigned as the mnemonic says. The wrap at every width is the spec's decision D7 in R143 (assumption log
entry 13). -/
def Obligations.AddResults : Prop :=
  ∀ (s : State) (rd ra rb : Operand) (i8 : Byte) (i16 : BitVec 16) (i32 : BitVec 32),
    (encode (.add8 rd ra rb) = [0x40, rd.toByte, ra.toByte, rb.toByte] ∧ ∃ t, exec (.add8 rd ra rb) s = .next t ∧
      Wrote s t 3 rd .w8 (both (fun a b => trunc 8 (a.toInt + b.toInt)) (s.srcVal ra .w8) (s.srcVal rb .w8))) ∧
    (encode (.add16 rd ra rb) = [0x41, rd.toByte, ra.toByte, rb.toByte] ∧ ∃ t, exec (.add16 rd ra rb) s = .next t ∧
      Wrote s t 3 rd .w16 (both (fun a b => trunc 16 (a.toInt + b.toInt)) (s.srcVal ra .w16) (s.srcVal rb .w16))) ∧
    (encode (.add32 rd ra rb) = [0x42, rd.toByte, ra.toByte, rb.toByte] ∧ ∃ t, exec (.add32 rd ra rb) s = .next t ∧
      Wrote s t 3 rd .w32 (both (fun a b => trunc 32 (a.toInt + b.toInt)) (s.srcVal ra .w32) (s.srcVal rb .w32))) ∧
    (encode (.addi8 rd ra i8) = [0x44, rd.toByte, ra.toByte, i8] ∧ ∃ t, exec (.addi8 rd ra i8) s = .next t ∧
      Wrote s t 3 rd .w8 (one (fun a => trunc 8 (a.toInt + i8.toInt)) (s.srcVal ra .w8))) ∧
    (encode (.addi16 rd ra i16) = [0x45, rd.toByte, ra.toByte] ++ leBytes 2 i16.toNat ∧ ∃ t, exec (.addi16 rd ra i16) s = .next t ∧
      Wrote s t 4 rd .w16 (one (fun a => trunc 16 (a.toInt + i16.toInt)) (s.srcVal ra .w16))) ∧
    (encode (.addi32 rd ra i32) = [0x46, rd.toByte, ra.toByte] ++ leBytes 4 i32.toNat ∧ ∃ t, exec (.addi32 rd ra i32) s = .next t ∧
      Wrote s t 6 rd .w32 (one (fun a => trunc 32 (a.toInt + i32.toInt)) (s.srcVal ra .w32))) ∧
    (encode (.addu8 rd ra rb) = [0x48, rd.toByte, ra.toByte, rb.toByte] ∧ ∃ t, exec (.addu8 rd ra rb) s = .next t ∧
      Wrote s t 3 rd .w8 (both (fun a b => trunc 8 ((a.toNat : Int) + b.toNat)) (s.srcVal ra .w8) (s.srcVal rb .w8))) ∧
    (encode (.addu16 rd ra rb) = [0x49, rd.toByte, ra.toByte, rb.toByte] ∧ ∃ t, exec (.addu16 rd ra rb) s = .next t ∧
      Wrote s t 3 rd .w16 (both (fun a b => trunc 16 ((a.toNat : Int) + b.toNat)) (s.srcVal ra .w16) (s.srcVal rb .w16))) ∧
    (encode (.addu32 rd ra rb) = [0x4A, rd.toByte, ra.toByte, rb.toByte] ∧ ∃ t, exec (.addu32 rd ra rb) s = .next t ∧
      Wrote s t 3 rd .w32 (both (fun a b => trunc 32 ((a.toNat : Int) + b.toNat)) (s.srcVal ra .w32) (s.srcVal rb .w32))) ∧
    (encode (.addui8 rd ra i8) = [0x4C, rd.toByte, ra.toByte, i8] ∧ ∃ t, exec (.addui8 rd ra i8) s = .next t ∧
      Wrote s t 3 rd .w8 (one (fun a => trunc 8 ((a.toNat : Int) + i8.toNat)) (s.srcVal ra .w8))) ∧
    (encode (.addui16 rd ra i16) = [0x4D, rd.toByte, ra.toByte] ++ leBytes 2 i16.toNat ∧ ∃ t, exec (.addui16 rd ra i16) s = .next t ∧
      Wrote s t 4 rd .w16 (one (fun a => trunc 16 ((a.toNat : Int) + i16.toNat)) (s.srcVal ra .w16))) ∧
    (encode (.addui32 rd ra i32) = [0x4E, rd.toByte, ra.toByte] ++ leBytes 4 i32.toNat ∧ ∃ t, exec (.addui32 rd ra i32) s = .next t ∧
      Wrote s t 6 rd .w32 (one (fun a => trunc 32 ((a.toNat : Int) + i32.toNat)) (s.srcVal ra .w32)))

/-- For every state and operands the twelve subtractions complete. When the destination is a general-register target of
the width and the sources are general registers of the width or nil (or the immediate), the target receives the result
and no other register changes; with any other operand no register changes. All argument bytes are consumed; memory,
mem, ret, int and everything hidden are unchanged. The result is first source minus second source modulo 2 to the W,
the operands read as signed or unsigned as the mnemonic says. The wrap is the spec's decision D7 in R143 (assumption
log entry 13). -/
def Obligations.SubtractResults : Prop :=
  ∀ (s : State) (rd ra rb : Operand) (i8 : Byte) (i16 : BitVec 16) (i32 : BitVec 32),
    (encode (.sub8 rd ra rb) = [0x50, rd.toByte, ra.toByte, rb.toByte] ∧ ∃ t, exec (.sub8 rd ra rb) s = .next t ∧
      Wrote s t 3 rd .w8 (both (fun a b => trunc 8 (a.toInt - b.toInt)) (s.srcVal ra .w8) (s.srcVal rb .w8))) ∧
    (encode (.sub16 rd ra rb) = [0x51, rd.toByte, ra.toByte, rb.toByte] ∧ ∃ t, exec (.sub16 rd ra rb) s = .next t ∧
      Wrote s t 3 rd .w16 (both (fun a b => trunc 16 (a.toInt - b.toInt)) (s.srcVal ra .w16) (s.srcVal rb .w16))) ∧
    (encode (.sub32 rd ra rb) = [0x52, rd.toByte, ra.toByte, rb.toByte] ∧ ∃ t, exec (.sub32 rd ra rb) s = .next t ∧
      Wrote s t 3 rd .w32 (both (fun a b => trunc 32 (a.toInt - b.toInt)) (s.srcVal ra .w32) (s.srcVal rb .w32))) ∧
    (encode (.subi8 rd ra i8) = [0x54, rd.toByte, ra.toByte, i8] ∧ ∃ t, exec (.subi8 rd ra i8) s = .next t ∧
      Wrote s t 3 rd .w8 (one (fun a => trunc 8 (a.toInt - i8.toInt)) (s.srcVal ra .w8))) ∧
    (encode (.subi16 rd ra i16) = [0x55, rd.toByte, ra.toByte] ++ leBytes 2 i16.toNat ∧ ∃ t, exec (.subi16 rd ra i16) s = .next t ∧
      Wrote s t 4 rd .w16 (one (fun a => trunc 16 (a.toInt - i16.toInt)) (s.srcVal ra .w16))) ∧
    (encode (.subi32 rd ra i32) = [0x56, rd.toByte, ra.toByte] ++ leBytes 4 i32.toNat ∧ ∃ t, exec (.subi32 rd ra i32) s = .next t ∧
      Wrote s t 6 rd .w32 (one (fun a => trunc 32 (a.toInt - i32.toInt)) (s.srcVal ra .w32))) ∧
    (encode (.subu8 rd ra rb) = [0x58, rd.toByte, ra.toByte, rb.toByte] ∧ ∃ t, exec (.subu8 rd ra rb) s = .next t ∧
      Wrote s t 3 rd .w8 (both (fun a b => trunc 8 ((a.toNat : Int) - b.toNat)) (s.srcVal ra .w8) (s.srcVal rb .w8))) ∧
    (encode (.subu16 rd ra rb) = [0x59, rd.toByte, ra.toByte, rb.toByte] ∧ ∃ t, exec (.subu16 rd ra rb) s = .next t ∧
      Wrote s t 3 rd .w16 (both (fun a b => trunc 16 ((a.toNat : Int) - b.toNat)) (s.srcVal ra .w16) (s.srcVal rb .w16))) ∧
    (encode (.subu32 rd ra rb) = [0x5A, rd.toByte, ra.toByte, rb.toByte] ∧ ∃ t, exec (.subu32 rd ra rb) s = .next t ∧
      Wrote s t 3 rd .w32 (both (fun a b => trunc 32 ((a.toNat : Int) - b.toNat)) (s.srcVal ra .w32) (s.srcVal rb .w32))) ∧
    (encode (.subui8 rd ra i8) = [0x5C, rd.toByte, ra.toByte, i8] ∧ ∃ t, exec (.subui8 rd ra i8) s = .next t ∧
      Wrote s t 3 rd .w8 (one (fun a => trunc 8 ((a.toNat : Int) - i8.toNat)) (s.srcVal ra .w8))) ∧
    (encode (.subui16 rd ra i16) = [0x5D, rd.toByte, ra.toByte] ++ leBytes 2 i16.toNat ∧ ∃ t, exec (.subui16 rd ra i16) s = .next t ∧
      Wrote s t 4 rd .w16 (one (fun a => trunc 16 ((a.toNat : Int) - i16.toNat)) (s.srcVal ra .w16))) ∧
    (encode (.subui32 rd ra i32) = [0x5E, rd.toByte, ra.toByte] ++ leBytes 4 i32.toNat ∧ ∃ t, exec (.subui32 rd ra i32) s = .next t ∧
      Wrote s t 6 rd .w32 (one (fun a => trunc 32 ((a.toNat : Int) - i32.toNat)) (s.srcVal ra .w32)))

/-- For every state and operands the twelve multiplications complete. When the destination is a general-register target of
the width and the sources are general registers of the width or nil (or the immediate), the target receives the result
and no other register changes; with any other operand no register changes. All argument bytes are consumed; memory,
mem, ret, int and everything hidden are unchanged. The result is the exact product modulo 2 to the W, the operands
read as signed or unsigned as the mnemonic says. The wrap is the spec's decision D7 in R143 (assumption log entry 13). -/
def Obligations.MultiplyResults : Prop :=
  ∀ (s : State) (rd ra rb : Operand) (i8 : Byte) (i16 : BitVec 16) (i32 : BitVec 32),
    (encode (.mul8 rd ra rb) = [0x60, rd.toByte, ra.toByte, rb.toByte] ∧ ∃ t, exec (.mul8 rd ra rb) s = .next t ∧
      Wrote s t 3 rd .w8 (both (fun a b => trunc 8 (a.toInt * b.toInt)) (s.srcVal ra .w8) (s.srcVal rb .w8))) ∧
    (encode (.mul16 rd ra rb) = [0x61, rd.toByte, ra.toByte, rb.toByte] ∧ ∃ t, exec (.mul16 rd ra rb) s = .next t ∧
      Wrote s t 3 rd .w16 (both (fun a b => trunc 16 (a.toInt * b.toInt)) (s.srcVal ra .w16) (s.srcVal rb .w16))) ∧
    (encode (.mul32 rd ra rb) = [0x62, rd.toByte, ra.toByte, rb.toByte] ∧ ∃ t, exec (.mul32 rd ra rb) s = .next t ∧
      Wrote s t 3 rd .w32 (both (fun a b => trunc 32 (a.toInt * b.toInt)) (s.srcVal ra .w32) (s.srcVal rb .w32))) ∧
    (encode (.muli8 rd ra i8) = [0x64, rd.toByte, ra.toByte, i8] ∧ ∃ t, exec (.muli8 rd ra i8) s = .next t ∧
      Wrote s t 3 rd .w8 (one (fun a => trunc 8 (a.toInt * i8.toInt)) (s.srcVal ra .w8))) ∧
    (encode (.muli16 rd ra i16) = [0x65, rd.toByte, ra.toByte] ++ leBytes 2 i16.toNat ∧ ∃ t, exec (.muli16 rd ra i16) s = .next t ∧
      Wrote s t 4 rd .w16 (one (fun a => trunc 16 (a.toInt * i16.toInt)) (s.srcVal ra .w16))) ∧
    (encode (.muli32 rd ra i32) = [0x66, rd.toByte, ra.toByte] ++ leBytes 4 i32.toNat ∧ ∃ t, exec (.muli32 rd ra i32) s = .next t ∧
      Wrote s t 6 rd .w32 (one (fun a => trunc 32 (a.toInt * i32.toInt)) (s.srcVal ra .w32))) ∧
    (encode (.mulu8 rd ra rb) = [0x68, rd.toByte, ra.toByte, rb.toByte] ∧ ∃ t, exec (.mulu8 rd ra rb) s = .next t ∧
      Wrote s t 3 rd .w8 (both (fun a b => trunc 8 ((a.toNat : Int) * b.toNat)) (s.srcVal ra .w8) (s.srcVal rb .w8))) ∧
    (encode (.mulu16 rd ra rb) = [0x69, rd.toByte, ra.toByte, rb.toByte] ∧ ∃ t, exec (.mulu16 rd ra rb) s = .next t ∧
      Wrote s t 3 rd .w16 (both (fun a b => trunc 16 ((a.toNat : Int) * b.toNat)) (s.srcVal ra .w16) (s.srcVal rb .w16))) ∧
    (encode (.mulu32 rd ra rb) = [0x6A, rd.toByte, ra.toByte, rb.toByte] ∧ ∃ t, exec (.mulu32 rd ra rb) s = .next t ∧
      Wrote s t 3 rd .w32 (both (fun a b => trunc 32 ((a.toNat : Int) * b.toNat)) (s.srcVal ra .w32) (s.srcVal rb .w32))) ∧
    (encode (.mului8 rd ra i8) = [0x6C, rd.toByte, ra.toByte, i8] ∧ ∃ t, exec (.mului8 rd ra i8) s = .next t ∧
      Wrote s t 3 rd .w8 (one (fun a => trunc 8 ((a.toNat : Int) * i8.toNat)) (s.srcVal ra .w8))) ∧
    (encode (.mului16 rd ra i16) = [0x6D, rd.toByte, ra.toByte] ++ leBytes 2 i16.toNat ∧ ∃ t, exec (.mului16 rd ra i16) s = .next t ∧
      Wrote s t 4 rd .w16 (one (fun a => trunc 16 ((a.toNat : Int) * i16.toNat)) (s.srcVal ra .w16))) ∧
    (encode (.mului32 rd ra i32) = [0x6E, rd.toByte, ra.toByte] ++ leBytes 4 i32.toNat ∧ ∃ t, exec (.mului32 rd ra i32) s = .next t ∧
      Wrote s t 6 rd .w32 (one (fun a => trunc 32 ((a.toNat : Int) * i32.toNat)) (s.srcVal ra .w32)))

/-- For every state and operands the twelve divisions complete. When the destination is a general-register target of the
width and the sources are general registers of the width or nil (or the immediate), the target receives the result and
no other register changes; with any other operand no register changes. All argument bytes are consumed; memory, mem,
ret, int and everything hidden are unchanged. For a non-zero divisor the result is the quotient rounded toward zero,
cut to W bits, the operands read as signed or unsigned as the mnemonic says; for a divisor of 0 it is the configured
DIV0 of the width, the signedness and the dividend, whatever that is. DIV0 is opaque (assumption log entry 4), so the
statement holds for every value of it; that the destination is written is the spec's decision D9. -/
def Obligations.DivideResults : Prop :=
  ∀ (s : State) (rd ra rb : Operand) (i8 : Byte) (i16 : BitVec 16) (i32 : BitVec 32),
    (encode (.div8 rd ra rb) = [0x70, rd.toByte, ra.toByte, rb.toByte] ∧ ∃ t, exec (.div8 rd ra rb) s = .next t ∧
      Wrote s t 3 rd .w8 (both (fun a b => if b = 0 then Config.div0 8 true a else trunc 8 (Int.tdiv a.toInt b.toInt)) (s.srcVal ra .w8) (s.srcVal rb .w8))) ∧
    (encode (.div16 rd ra rb) = [0x71, rd.toByte, ra.toByte, rb.toByte] ∧ ∃ t, exec (.div16 rd ra rb) s = .next t ∧
      Wrote s t 3 rd .w16 (both (fun a b => if b = 0 then Config.div0 16 true a else trunc 16 (Int.tdiv a.toInt b.toInt)) (s.srcVal ra .w16) (s.srcVal rb .w16))) ∧
    (encode (.div32 rd ra rb) = [0x72, rd.toByte, ra.toByte, rb.toByte] ∧ ∃ t, exec (.div32 rd ra rb) s = .next t ∧
      Wrote s t 3 rd .w32 (both (fun a b => if b = 0 then Config.div0 32 true a else trunc 32 (Int.tdiv a.toInt b.toInt)) (s.srcVal ra .w32) (s.srcVal rb .w32))) ∧
    (encode (.divi8 rd ra i8) = [0x74, rd.toByte, ra.toByte, i8] ∧ ∃ t, exec (.divi8 rd ra i8) s = .next t ∧
      Wrote s t 3 rd .w8 (one (fun a => if i8 = 0 then Config.div0 8 true a else trunc 8 (Int.tdiv a.toInt i8.toInt)) (s.srcVal ra .w8))) ∧
    (encode (.divi16 rd ra i16) = [0x75, rd.toByte, ra.toByte] ++ leBytes 2 i16.toNat ∧ ∃ t, exec (.divi16 rd ra i16) s = .next t ∧
      Wrote s t 4 rd .w16 (one (fun a => if i16 = 0 then Config.div0 16 true a else trunc 16 (Int.tdiv a.toInt i16.toInt)) (s.srcVal ra .w16))) ∧
    (encode (.divi32 rd ra i32) = [0x76, rd.toByte, ra.toByte] ++ leBytes 4 i32.toNat ∧ ∃ t, exec (.divi32 rd ra i32) s = .next t ∧
      Wrote s t 6 rd .w32 (one (fun a => if i32 = 0 then Config.div0 32 true a else trunc 32 (Int.tdiv a.toInt i32.toInt)) (s.srcVal ra .w32))) ∧
    (encode (.divu8 rd ra rb) = [0x78, rd.toByte, ra.toByte, rb.toByte] ∧ ∃ t, exec (.divu8 rd ra rb) s = .next t ∧
      Wrote s t 3 rd .w8 (both (fun a b => if b = 0 then Config.div0 8 false a else trunc 8 ((a.toNat : Int) / b.toNat)) (s.srcVal ra .w8) (s.srcVal rb .w8))) ∧
    (encode (.divu16 rd ra rb) = [0x79, rd.toByte, ra.toByte, rb.toByte] ∧ ∃ t, exec (.divu16 rd ra rb) s = .next t ∧
      Wrote s t 3 rd .w16 (both (fun a b => if b = 0 then Config.div0 16 false a else trunc 16 ((a.toNat : Int) / b.toNat)) (s.srcVal ra .w16) (s.srcVal rb .w16))) ∧
    (encode (.divu32 rd ra rb) = [0x7A, rd.toByte, ra.toByte, rb.toByte] ∧ ∃ t, exec (.divu32 rd ra rb) s = .next t ∧
      Wrote s t 3 rd .w32 (both (fun a b => if b = 0 then Config.div0 32 false a else trunc 32 ((a.toNat : Int) / b.toNat)) (s.srcVal ra .w32) (s.srcVal rb .w32))) ∧
    (encode (.divui8 rd ra i8) = [0x7C, rd.toByte, ra.toByte, i8] ∧ ∃ t, exec (.divui8 rd ra i8) s = .next t ∧
      Wrote s t 3 rd .w8 (one (fun a => if i8 = 0 then Config.div0 8 false a else trunc 8 ((a.toNat : Int) / i8.toNat)) (s.srcVal ra .w8))) ∧
    (encode (.divui16 rd ra i16) = [0x7D, rd.toByte, ra.toByte] ++ leBytes 2 i16.toNat ∧ ∃ t, exec (.divui16 rd ra i16) s = .next t ∧
      Wrote s t 4 rd .w16 (one (fun a => if i16 = 0 then Config.div0 16 false a else trunc 16 ((a.toNat : Int) / i16.toNat)) (s.srcVal ra .w16))) ∧
    (encode (.divui32 rd ra i32) = [0x7E, rd.toByte, ra.toByte] ++ leBytes 4 i32.toNat ∧ ∃ t, exec (.divui32 rd ra i32) s = .next t ∧
      Wrote s t 6 rd .w32 (one (fun a => if i32 = 0 then Config.div0 32 false a else trunc 32 ((a.toNat : Int) / i32.toNat)) (s.srcVal ra .w32)))

/-- For the same operands, the signed and the unsigned form of add, subtract and multiply have the same outcome in every
state, at every width, in register and immediate form. R143 marks it as derived (two's-complement arithmetic modulo 2
to the W). -/
def Obligations.SignedAndUnsignedFormsAgree : Prop :=
  ∀ (s : State) (rd ra rb : Operand) (i8 : Byte) (i16 : BitVec 16) (i32 : BitVec 32),
    exec (.add8 rd ra rb) s = exec (.addu8 rd ra rb) s ∧
    exec (.addi8 rd ra i8) s = exec (.addui8 rd ra i8) s ∧
    exec (.add16 rd ra rb) s = exec (.addu16 rd ra rb) s ∧
    exec (.addi16 rd ra i16) s = exec (.addui16 rd ra i16) s ∧
    exec (.add32 rd ra rb) s = exec (.addu32 rd ra rb) s ∧
    exec (.addi32 rd ra i32) s = exec (.addui32 rd ra i32) s ∧
    exec (.sub8 rd ra rb) s = exec (.subu8 rd ra rb) s ∧
    exec (.subi8 rd ra i8) s = exec (.subui8 rd ra i8) s ∧
    exec (.sub16 rd ra rb) s = exec (.subu16 rd ra rb) s ∧
    exec (.subi16 rd ra i16) s = exec (.subui16 rd ra i16) s ∧
    exec (.sub32 rd ra rb) s = exec (.subu32 rd ra rb) s ∧
    exec (.subi32 rd ra i32) s = exec (.subui32 rd ra i32) s ∧
    exec (.mul8 rd ra rb) s = exec (.mulu8 rd ra rb) s ∧
    exec (.muli8 rd ra i8) s = exec (.mului8 rd ra i8) s ∧
    exec (.mul16 rd ra rb) s = exec (.mulu16 rd ra rb) s ∧
    exec (.muli16 rd ra i16) s = exec (.mului16 rd ra i16) s ∧
    exec (.mul32 rd ra rb) s = exec (.mulu32 rd ra rb) s ∧
    exec (.muli32 rd ra i32) s = exec (.mului32 rd ra i32) s

/-- At every width: for a non-zero divisor, and but for the most negative value divided by -1, the signed quotient times
the divisor plus a remainder smaller in size than the divisor and of the sign of the dividend is the dividend; the
most negative value divided by -1 gives the dividend; the unsigned quotient times the divisor plus a smaller remainder
is the dividend. The overflow's result is the spec's decision D8 (assumption log entry 13). -/
def Obligations.QuotientsTruncateTowardZero : Prop :=
  (∀ a b : BitVec 8, b ≠ 0 → ¬(a.toInt = -2 ^ 7 ∧ b.toInt = -1) →
    ∃ r : Int, a.toInt = (divSigned a b).toInt * b.toInt + r ∧ |r| < |b.toInt| ∧ (0 ≤ a.toInt → 0 ≤ r) ∧ (a.toInt ≤ 0 → r ≤ 0)) ∧
  (∀ a b : BitVec 8, a.toInt = -2 ^ 7 → b.toInt = -1 → divSigned a b = a) ∧
  (∀ a b : BitVec 8, b ≠ 0 → ∃ r : Nat, a.toNat = (divUnsigned a b).toNat * b.toNat + r ∧ r < b.toNat) ∧
  (∀ a b : BitVec 16, b ≠ 0 → ¬(a.toInt = -2 ^ 15 ∧ b.toInt = -1) →
    ∃ r : Int, a.toInt = (divSigned a b).toInt * b.toInt + r ∧ |r| < |b.toInt| ∧ (0 ≤ a.toInt → 0 ≤ r) ∧ (a.toInt ≤ 0 → r ≤ 0)) ∧
  (∀ a b : BitVec 16, a.toInt = -2 ^ 15 → b.toInt = -1 → divSigned a b = a) ∧
  (∀ a b : BitVec 16, b ≠ 0 → ∃ r : Nat, a.toNat = (divUnsigned a b).toNat * b.toNat + r ∧ r < b.toNat) ∧
  (∀ a b : BitVec 32, b ≠ 0 → ¬(a.toInt = -2 ^ 31 ∧ b.toInt = -1) →
    ∃ r : Int, a.toInt = (divSigned a b).toInt * b.toInt + r ∧ |r| < |b.toInt| ∧ (0 ≤ a.toInt → 0 ≤ r) ∧ (a.toInt ≤ 0 → r ≤ 0)) ∧
  (∀ a b : BitVec 32, a.toInt = -2 ^ 31 → b.toInt = -1 → divSigned a b = a) ∧
  (∀ a b : BitVec 32, b ≠ 0 → ∃ r : Nat, a.toNat = (divUnsigned a b).toNat * b.toNat + r ∧ r < b.toNat)

/-- For every state and operands the six load-immediates complete. A general-register target of the width receives the
immediate and no other register changes. mem receives the immediate brought to 16 bits: li8 sign-extends, lui8 zero-
extends, width 16 is taken as it is, width 32 keeps its low 16 bits; nothing is stored through the pointer. Any other
destination leaves everything but pc unchanged. All argument bytes are consumed. The mem destination at widths 8 and
32 is the spec's decision D11 (assumption log entry 15). -/
def Obligations.LoadImmediateResults : Prop :=
  ∀ (s : State) (ra : Operand) (i8 : Byte) (i16 : BitVec 16) (i32 : BitVec 32),
    (encode (.li8 ra i8) = [0x20, ra.toByte, i8] ∧ ∃ t, exec (.li8 ra i8) s = .next t ∧
      (ra = .mem → MovedPointer s t 2 (trunc 16 i8.toInt)) ∧ (ra ≠ .mem → Wrote s t 2 ra .w8 (some i8))) ∧
    (encode (.li16 ra i16) = [0x21, ra.toByte] ++ leBytes 2 i16.toNat ∧ ∃ t, exec (.li16 ra i16) s = .next t ∧
      (ra = .mem → MovedPointer s t 3 (i16)) ∧ (ra ≠ .mem → Wrote s t 3 ra .w16 (some i16))) ∧
    (encode (.li32 ra i32) = [0x22, ra.toByte] ++ leBytes 4 i32.toNat ∧ ∃ t, exec (.li32 ra i32) s = .next t ∧
      (ra = .mem → MovedPointer s t 5 (trunc 16 i32.toNat)) ∧ (ra ≠ .mem → Wrote s t 5 ra .w32 (some i32))) ∧
    (encode (.lui8 ra i8) = [0x24, ra.toByte, i8] ∧ ∃ t, exec (.lui8 ra i8) s = .next t ∧
      (ra = .mem → MovedPointer s t 2 (trunc 16 i8.toNat)) ∧ (ra ≠ .mem → Wrote s t 2 ra .w8 (some i8))) ∧
    (encode (.lui16 ra i16) = [0x25, ra.toByte] ++ leBytes 2 i16.toNat ∧ ∃ t, exec (.lui16 ra i16) s = .next t ∧
      (ra = .mem → MovedPointer s t 3 (i16)) ∧ (ra ≠ .mem → Wrote s t 3 ra .w16 (some i16))) ∧
    (encode (.lui32 ra i32) = [0x26, ra.toByte] ++ leBytes 4 i32.toNat ∧ ∃ t, exec (.lui32 ra i32) s = .next t ∧
      (ra = .mem → MovedPointer s t 5 (trunc 16 i32.toNat)) ∧ (ra ≠ .mem → Wrote s t 5 ra .w32 (some i32)))

/-- For every state and operand the three loads complete. A general-register target of the width receives the little-
endian value at the address in mem, whatever that address is, and no other register changes; with any other operand no
register changes. mem and every byte of memory are unchanged. -/
def Obligations.LoadResults : Prop :=
  ∀ (s : State) (ra : Operand),
    (encode (.lm8 ra) = [0x30, ra.toByte] ∧
      ∃ t, exec (.lm8 ra) s = .next t ∧ Wrote s t 1 ra .w8 (some (s.memRead s.mem.toNat .w8))) ∧
    (encode (.lm16 ra) = [0x31, ra.toByte] ∧
      ∃ t, exec (.lm16 ra) s = .next t ∧ Wrote s t 1 ra .w16 (some (s.memRead s.mem.toNat .w16))) ∧
    (encode (.lm32 ra) = [0x32, ra.toByte] ∧
      ∃ t, exec (.lm32 ra) s = .next t ∧ Wrote s t 1 ra .w32 (some (s.memRead s.mem.toNat .w32)))

/-- For every state with memory in canonical form and every operand the three stores complete. With a general register of
the width, or nil for 0, as source, the bytes from the address in mem on that lie below CAP receive the value, least
significant first, unless the module that owns mem is read-only, and every other byte of memory keeps its value; with
any other operand every byte does. No general register, mem, ret, int or anything hidden changes. The dropped bytes
are the spec's decision D16 and the owner of the first byte its decision D17 (assumption log entries 20 and 21). -/
def Obligations.StoreResults : Prop :=
  ∀ (s : State) (ra : Operand), canonical s →
    (encode (.sm8 ra) = [0x34, ra.toByte] ∧ ∃ t, exec (.sm8 ra) s = .next t ∧
      Stored s t 1 (fun x => if s.config.readOnly s.mem.toNat then none
        else (s.srcVal ra .w8).bind fun v => storedByte s.config.cap s.mem.toNat .w8 v x)) ∧
    (encode (.sm16 ra) = [0x35, ra.toByte] ∧ ∃ t, exec (.sm16 ra) s = .next t ∧
      Stored s t 1 (fun x => if s.config.readOnly s.mem.toNat then none
        else (s.srcVal ra .w16).bind fun v => storedByte s.config.cap s.mem.toNat .w16 v x)) ∧
    (encode (.sm32 ra) = [0x36, ra.toByte] ∧ ∃ t, exec (.sm32 ra) s = .next t ∧
      Stored s t 1 (fun x => if s.config.readOnly s.mem.toNat then none
        else (s.srcVal ra .w32).bind fun v => storedByte s.config.cap s.mem.toNat .w32 v x))

/-- For every state and operands the three moves complete. A general-register target of the width receives the source,
which is a general register of the width or nil, or for mov16 also mem, ret, int, or pc, which reads as the address of
the instruction's own last byte; with any other operand no register changes. The special registers, memory and
everything hidden are unchanged. -/
def Obligations.MoveResults : Prop :=
  ∀ (s : State) (ra rb : Operand),
    (encode (.mov8 ra rb) = [0x38, ra.toByte, rb.toByte] ∧
      ∃ t, exec (.mov8 ra rb) s = .next t ∧ Wrote s t 2 ra .w8 (s.srcVal rb .w8)) ∧
    (encode (.mov16 ra rb) = [0x39, ra.toByte, rb.toByte] ∧
      ∃ t, exec (.mov16 ra rb) s = .next t ∧ Wrote s t 2 ra .w16 (if rb = .pc then some (trunc 16 (((s.pc.toNat + 2) % s.config.cap : Nat) : Int)) else s.srcVal16S rb)) ∧
    (encode (.mov32 ra rb) = [0x3A, ra.toByte, rb.toByte] ∧
      ∃ t, exec (.mov32 ra rb) s = .next t ∧ Wrote s t 2 ra .w32 (s.srcVal rb .w32))

/-- mvm completes in every state with memory in canonical form: the bytes from dst on, as many as the length and the room
left at both ends allow, receive the old bytes from src on, overlapping or not and across modules; every other byte of
memory, every register but pc, and everything hidden keep their values. That all source bytes are read first is the
spec's decision D14 (assumption log entry 18); that all operands are immediates its decision D13. -/
def Obligations.BlockCopyResults : Prop :=
  ∀ (s : State) (src dst : Addr) (len : Byte), canonical s →
    encode (.mvm src dst len) = [0xA0] ++ leBytes 2 src.toNat ++ leBytes 2 dst.toNat ++ [len] ∧
    ∃ t, exec (.mvm src dst len) s = .next t ∧
      Stored s t 5 (fun x =>
        if dst.toNat ≤ x ∧ x < dst.toNat + min len.toNat (min (s.config.cap - src.toNat) (s.config.cap - dst.toNat)) then
          some (s.byteAt (src.toNat + (x - dst.toNat))) else none)

/-- clm completes in every state with memory in canonical form: the bytes from the start address on, as many as the length
says and lie below CAP, receive the value, across modules; every other byte of memory, every register but pc, and
everything hidden keep their values. -/
def Obligations.BlockFillResults : Prop :=
  ∀ (s : State) (addr : Addr) (len val : Byte), canonical s →
    encode (.clm addr len val) = [0xA1] ++ leBytes 2 addr.toNat ++ [len, val] ∧
    ∃ t, exec (.clm addr len val) s = .next t ∧
      Stored s t 4 (fun x =>
        if addr.toNat ≤ x ∧ x < addr.toNat + len.toNat ∧ x < s.config.cap then some val else none)

/-- For every state, operands and target the six branches complete. When both sources are valid and the unsigned
comparison holds, the next opcode is fetched at the target modulo CAP; otherwise, an invalid operand included, at the
byte after the branch. No register but pc, no memory and nothing hidden changes. A branch with an invalid operand is
not taken by an inference R240 marks as derived from R94. -/
def Obligations.EqualityBranches : Prop :=
  ∀ (s : State) (ra rb : Operand) (target : Addr),
    (encode (.beq8 ra rb target) = [0x80, ra.toByte, rb.toByte] ++ leBytes 2 target.toNat ∧
      ∃ t, exec (.beq8 ra rb target) s = .next t ∧ SameSpecials s t ∧
        Went s t (branchNext s (holds (fun a b => decide (a = b)) (s.srcVal ra .w8) (s.srcVal rb .w8)) target)) ∧
    (encode (.beq16 ra rb target) = [0x81, ra.toByte, rb.toByte] ++ leBytes 2 target.toNat ∧
      ∃ t, exec (.beq16 ra rb target) s = .next t ∧ SameSpecials s t ∧
        Went s t (branchNext s (holds (fun a b => decide (a = b)) (s.srcVal ra .w16) (s.srcVal rb .w16)) target)) ∧
    (encode (.beq32 ra rb target) = [0x82, ra.toByte, rb.toByte] ++ leBytes 2 target.toNat ∧
      ∃ t, exec (.beq32 ra rb target) s = .next t ∧ SameSpecials s t ∧
        Went s t (branchNext s (holds (fun a b => decide (a = b)) (s.srcVal ra .w32) (s.srcVal rb .w32)) target)) ∧
    (encode (.bne8 ra rb target) = [0x94, ra.toByte, rb.toByte] ++ leBytes 2 target.toNat ∧
      ∃ t, exec (.bne8 ra rb target) s = .next t ∧ SameSpecials s t ∧
        Went s t (branchNext s (holds (fun a b => decide (a ≠ b)) (s.srcVal ra .w8) (s.srcVal rb .w8)) target)) ∧
    (encode (.bne16 ra rb target) = [0x95, ra.toByte, rb.toByte] ++ leBytes 2 target.toNat ∧
      ∃ t, exec (.bne16 ra rb target) s = .next t ∧ SameSpecials s t ∧
        Went s t (branchNext s (holds (fun a b => decide (a ≠ b)) (s.srcVal ra .w16) (s.srcVal rb .w16)) target)) ∧
    (encode (.bne32 ra rb target) = [0x96, ra.toByte, rb.toByte] ++ leBytes 2 target.toNat ∧
      ∃ t, exec (.bne32 ra rb target) s = .next t ∧ SameSpecials s t ∧
        Went s t (branchNext s (holds (fun a b => decide (a ≠ b)) (s.srcVal ra .w32) (s.srcVal rb .w32)) target))

/-- For every state, operands and target the six branches complete. When both sources are valid and the unsigned
comparison holds, the next opcode is fetched at the target modulo CAP; otherwise, an invalid operand included, at the
byte after the branch. No register but pc, no memory and nothing hidden changes. A branch with an invalid operand is
not taken by an inference R240 marks as derived from R94. -/
def Obligations.BelowBranches : Prop :=
  ∀ (s : State) (ra rb : Operand) (target : Addr),
    (encode (.blt8 ra rb target) = [0x84, ra.toByte, rb.toByte] ++ leBytes 2 target.toNat ∧
      ∃ t, exec (.blt8 ra rb target) s = .next t ∧ SameSpecials s t ∧
        Went s t (branchNext s (holds (fun a b => decide (a < b)) (s.srcVal ra .w8) (s.srcVal rb .w8)) target)) ∧
    (encode (.blt16 ra rb target) = [0x85, ra.toByte, rb.toByte] ++ leBytes 2 target.toNat ∧
      ∃ t, exec (.blt16 ra rb target) s = .next t ∧ SameSpecials s t ∧
        Went s t (branchNext s (holds (fun a b => decide (a < b)) (s.srcVal ra .w16) (s.srcVal rb .w16)) target)) ∧
    (encode (.blt32 ra rb target) = [0x86, ra.toByte, rb.toByte] ++ leBytes 2 target.toNat ∧
      ∃ t, exec (.blt32 ra rb target) s = .next t ∧ SameSpecials s t ∧
        Went s t (branchNext s (holds (fun a b => decide (a < b)) (s.srcVal ra .w32) (s.srcVal rb .w32)) target)) ∧
    (encode (.ble8 ra rb target) = [0x88, ra.toByte, rb.toByte] ++ leBytes 2 target.toNat ∧
      ∃ t, exec (.ble8 ra rb target) s = .next t ∧ SameSpecials s t ∧
        Went s t (branchNext s (holds (fun a b => decide (a ≤ b)) (s.srcVal ra .w8) (s.srcVal rb .w8)) target)) ∧
    (encode (.ble16 ra rb target) = [0x89, ra.toByte, rb.toByte] ++ leBytes 2 target.toNat ∧
      ∃ t, exec (.ble16 ra rb target) s = .next t ∧ SameSpecials s t ∧
        Went s t (branchNext s (holds (fun a b => decide (a ≤ b)) (s.srcVal ra .w16) (s.srcVal rb .w16)) target)) ∧
    (encode (.ble32 ra rb target) = [0x8A, ra.toByte, rb.toByte] ++ leBytes 2 target.toNat ∧
      ∃ t, exec (.ble32 ra rb target) s = .next t ∧ SameSpecials s t ∧
        Went s t (branchNext s (holds (fun a b => decide (a ≤ b)) (s.srcVal ra .w32) (s.srcVal rb .w32)) target))

/-- For every state, operands and target the six branches complete. When both sources are valid and the unsigned
comparison holds, the next opcode is fetched at the target modulo CAP; otherwise, an invalid operand included, at the
byte after the branch. No register but pc, no memory and nothing hidden changes. A branch with an invalid operand is
not taken by an inference R240 marks as derived from R94. -/
def Obligations.AboveBranches : Prop :=
  ∀ (s : State) (ra rb : Operand) (target : Addr),
    (encode (.bgt8 ra rb target) = [0x8C, ra.toByte, rb.toByte] ++ leBytes 2 target.toNat ∧
      ∃ t, exec (.bgt8 ra rb target) s = .next t ∧ SameSpecials s t ∧
        Went s t (branchNext s (holds (fun a b => decide (a > b)) (s.srcVal ra .w8) (s.srcVal rb .w8)) target)) ∧
    (encode (.bgt16 ra rb target) = [0x8D, ra.toByte, rb.toByte] ++ leBytes 2 target.toNat ∧
      ∃ t, exec (.bgt16 ra rb target) s = .next t ∧ SameSpecials s t ∧
        Went s t (branchNext s (holds (fun a b => decide (a > b)) (s.srcVal ra .w16) (s.srcVal rb .w16)) target)) ∧
    (encode (.bgt32 ra rb target) = [0x8E, ra.toByte, rb.toByte] ++ leBytes 2 target.toNat ∧
      ∃ t, exec (.bgt32 ra rb target) s = .next t ∧ SameSpecials s t ∧
        Went s t (branchNext s (holds (fun a b => decide (a > b)) (s.srcVal ra .w32) (s.srcVal rb .w32)) target)) ∧
    (encode (.bge8 ra rb target) = [0x90, ra.toByte, rb.toByte] ++ leBytes 2 target.toNat ∧
      ∃ t, exec (.bge8 ra rb target) s = .next t ∧ SameSpecials s t ∧
        Went s t (branchNext s (holds (fun a b => decide (a ≥ b)) (s.srcVal ra .w8) (s.srcVal rb .w8)) target)) ∧
    (encode (.bge16 ra rb target) = [0x91, ra.toByte, rb.toByte] ++ leBytes 2 target.toNat ∧
      ∃ t, exec (.bge16 ra rb target) s = .next t ∧ SameSpecials s t ∧
        Went s t (branchNext s (holds (fun a b => decide (a ≥ b)) (s.srcVal ra .w16) (s.srcVal rb .w16)) target)) ∧
    (encode (.bge32 ra rb target) = [0x92, ra.toByte, rb.toByte] ++ leBytes 2 target.toNat ∧
      ∃ t, exec (.bge32 ra rb target) s = .next t ∧ SameSpecials s t ∧
        Went s t (branchNext s (holds (fun a b => decide (a ≥ b)) (s.srcVal ra .w32) (s.srcVal rb .w32)) target))

/-- jmp, call, ret and rint complete in every state. The next opcode is fetched at the target, at ret or at int, modulo
CAP. call saves the address of the opcode after it in ret; ret clears ret; rint clears int; no other register but pc,
no memory and nothing hidden changes. The wrap of the address call saves (R272) is the spec's decision D15 (assumption
log entry 19). -/
def Obligations.JumpAndReturnResults : Prop :=
  ∀ (s : State) (target : Addr),
    (encode (.jmp target) = [0xB0] ++ leBytes 2 target.toNat ∧ ∃ t, exec (.jmp target) s = .next t ∧
      SameSpecials s t ∧ Went s t (target.toNat % s.config.cap)) ∧
    (encode (.call target) = [0xB1] ++ leBytes 2 target.toNat ∧ ∃ t, exec (.call target) s = .next t ∧
      t.ret.toNat = (s.pc.toNat + 3) % s.config.cap ∧ t.int = s.int ∧ Went s t (target.toNat % s.config.cap)) ∧
    (encode .ret = [0xB2] ∧ ∃ t, exec .ret s = .next t ∧ t.ret = 0 ∧ t.int = s.int ∧
      Went s t (s.ret.toNat % s.config.cap)) ∧
    (encode .rint = [0xB3] ∧ ∃ t, exec .rint s = .next t ∧ t.int = 0 ∧ t.ret = s.ret ∧
      Went s t (s.int.toNat % s.config.cap) ∧
      ∃ u, completed .rint s = .next u ∧
        (s.ilatch ≠ 0 → u.pc.toNat = s.ilatch.toNat % s.config.cap ∧ u.int.toNat = s.int.toNat % s.config.cap ∧ u.ilatch = 0))

/-- With nothing latched, a call followed by any instructions that leave ret alone and then by the return instruction,
reached with nothing latched, fetches its next opcode one past the last byte of the call, and ret is then 0. The wraps
of pc are the spec's decision D15 (assumption log entry 19). -/
def Obligations.CallThenReturnComesBack : Prop :=
  ∀ (s : State) (target : Addr), s.ilatch = 0 →
    ∃ t, completed (.call target) s = .next t ∧ t.pc.toNat = target.toNat % s.config.cap ∧
      ∀ u : State, u.config = s.config → u.ret = t.ret → u.ilatch = 0 →
        ∃ x, completed .ret u = .next x ∧ x.pc.toNat = (s.pc.toNat + 3) % s.config.cap ∧ x.ret = 0

/-- For every instruction that has an operand the table of the operand policy does not accept in its position, and every
state, the outcome is the state with pc moved over the argument bytes and nothing else changed. For a branch it is an
inference R94 marks as derived; which positions accept mem is the spec's decision D12 (assumption log entry 15). -/
def Obligations.InvalidOperandsAreInert : Prop :=
  ∀ (i : Instr) (s : State), operandsOK i = false →
    exec i s = .next { s with pc := trunc 16 (((s.pc.toNat + ((encode i).length - 1)) % s.config.cap : Nat) : Int) }

/-- Every instruction in every state gives a next state, never a fault and never a refusal; the interrupt latch, the
instruction in flight, the queue, the devices, the frame buffer and the bookkeeping are as before; and the next
opcode's address is below CAP. -/
def Obligations.EveryInstructionCompletes : Prop :=
  ∀ (i : Instr) (s : State), ∃ t, exec i s = .next t ∧ SameHidden s t ∧ t.nextOpcode.pc.toNat < s.config.cap

/-- When an instruction gives a next state: mem differs only after li or lui with mem as destination, ret only after call
or ret, int only after rint, and a byte of memory only after a store, mvm or clm; and every byte of memory at or above
CAP still reads 0. That only li and lui write mem is the spec's decision D12 (assumption log entry 15). -/
def Obligations.WhoMayWriteWhat : Prop :=
  ∀ (i : Instr) (s t : State), exec i s = .next t →
    (t.mem ≠ s.mem → writesMem i = true) ∧
    (t.ret ≠ s.ret → i = .ret ∨ ∃ target, i = .call target) ∧
    (t.int ≠ s.int → i = .rint) ∧
    (¬SameMemory s t → writesMemory i = true) ∧ ∀ a, s.config.cap ≤ a → t.byteAt a = 0

/-- After the Exec block of every instruction, pc moves by 1 modulo CAP to the next opcode. When a request is latched, int
saves that address, pc becomes the latched address modulo CAP and the latch is emptied; when none is, int and pc stay.
No general register, mem, ret, memory or anything else hidden changes. -/
def Obligations.InterruptEntryAfterKnownInstruction : Prop :=
  ∀ (i : Instr) (s t : State), exec i s = .next t →
    ∃ u, completed i s = .next u ∧ t.nextOpcode.pc.toNat = (t.pc.toNat + 1) % s.config.cap ∧
      (t.ilatch = 0 → u.pc = t.nextOpcode.pc ∧ u.int = t.int) ∧
      (t.ilatch ≠ 0 → u.int = t.nextOpcode.pc ∧ u.pc.toNat = t.ilatch.toNat % s.config.cap) ∧ u.ilatch = 0 ∧
      SameRegs t u ∧ SameMemory t u ∧ u.mem = t.mem ∧ u.ret = t.ret ∧ SameHidden { t with ilatch := 0 } u

/-- Over every table of costs of at least 1: an unknown opcode costs 1, nop costs 1, nopi costs the byte after it, fetched
modulo CAP, but at least 1, every other instruction costs what the table says of it; and no cost is 0. The least cost
of 1 is the spec's decisions D19 and D20 (assumption log entries 3 and 22). -/
def Obligations.CostOfInstructions : Prop :=
  ∀ (cost : Byte → Nat) (s : State) (op : Byte), (∀ x, 1 ≤ cost x) →
    (knownOpcode s.config op = false → costOf cost s op = 1) ∧ (s.config.opcode op = 0x00 → costOf cost s op = 1) ∧
    (s.config.opcode op = 0x01 → costOf cost s op = max 1 (s.byteAt ((s.pc.toNat + 1) % s.config.cap)).toNat) ∧
    (knownOpcode s.config op = true → s.config.opcode op ≠ 0x00 → s.config.opcode op ≠ 0x01 →
      costOf cost s op = cost (s.config.opcode op)) ∧ 1 ≤ costOf cost s op ∧
    ∀ x, 1 ≤ Config.cost x

/-- Over every table of costs of at least 1, from a state with no instruction in flight: until its last cycle the CPU
changes nothing but the record of the instruction in flight, and after exactly as many cycles as the instruction costs
the state is what the instruction-level view gives, so the result does not depend on the table. That the effects come
in the last cycle is the spec's decision D18 (assumption log entry 12). -/
def Obligations.CostOnlyDelaysTheInstruction : Prop :=
  ∀ (cost : Byte → Nat) (s : State), (∀ x, 1 ≤ cost x) → s.crem = 0 →
    (∀ k, 0 < k → k < costOf cost s s.opcodeByte →
      cpuCycles cost k s = .next { s with cop := s.opcodeByte, crem := costOf cost s s.opcodeByte - k }) ∧
    cpuCycles cost (costOf cost s s.opcodeByte) s = instructionStep s

/-- Take any state, after the host's actions due before the cycle and the keyboard mapper's part of it. When the CPU is in
the last cycle of an instruction and the opcode with the bytes after it at pc decode to an instruction, step gives a
next state: the Exec block of that instruction in that state, then the next opcode and interrupt entry, then the rest
of the cycle, which is the video generator, then the arbiter, then the tick, in this order. When the opcode is
unknown, pc moves by 1 in their place; when it is not the last cycle, one cycle of the cost is spent in their place.
The host's actions stand in the model's own field (assumption log entry 10); the cycle the effects fall in is the
spec's decision D18 (assumption log entry 12). -/
def Obligations.StepRunsTheDecodedInstruction : Prop :=
  (∀ (v : VideoParams) (p : Bool) (u : State),
    finishCycle v p u = { arbitrate p (videoCycle v u) with tick := u.tick + 1 }) ∧
  ∀ s : State,
    let k := keyboardCycle s.takeHostActions
    let c : State := { k with cop := k.currentOpcode, crem := 0 }
    (cyclesLeft Config.cost k = 0 →
      (∀ i, decodeIn k.config (k.currentOpcode :: k.argBytes) = .ok i →
        ∃ t, exec i c = .next t ∧
          step s = .next (finishCycle Config.video Config.pauseOnInterrupt t.nextOpcode.takeInterrupt)) ∧
      (knownOpcode k.config k.currentOpcode = false →
        step s = .next (finishCycle Config.video Config.pauseOnInterrupt c.nextOpcode)) ∧
      (knownOpcode k.config k.currentOpcode = true → ∃ i, decodeIn k.config (k.currentOpcode :: k.argBytes) = .ok i)) ∧
    (cyclesLeft Config.cost k ≠ 0 →
      step s = .next (finishCycle Config.video Config.pauseOnInterrupt
        { k with cop := k.currentOpcode, crem := cyclesLeft Config.cost k }))

/-- A step is one cycle after the host's actions due before it. With nothing to come from the host they change nothing;
else they are the actions of the first entry, in the order of the list, and the entry is used up. A key event is
set_key of its code and direction, a program load is load_program of its bytes and address, a reboot is reboot, pause
sets the pause output and resume clears it, both changing nothing else. The host's actions stand in the model's own
field (assumption log entry 10); that they fall between cycles is the spec's decision D28 (assumption log entry 27). -/
def Obligations.HostActionsComeBeforeTheCycle : Prop :=
  ∀ (s : State) (actions : List HostAction) (rest : List (List HostAction)),
    step s = cycle Config.cost Config.video Config.pauseOnInterrupt s.takeHostActions ∧
    (s.host = [] → s.takeHostActions = s) ∧
    (s.host = [] :: rest → s.takeHostActions = { s with host := rest }) ∧
    (s.host = actions :: rest → s.takeHostActions = actions.foldl State.hostAction { s with host := rest }) ∧
    (∀ (code : Byte) (isDown : Bool), s.hostAction (.setKey code isDown) = s.setKey code isDown) ∧
    (∀ (bytes : List Byte) (addr : Addr), s.hostAction (.loadProgram bytes addr) = s.loadProgram bytes addr) ∧
    s.hostAction .reboot = s.reboot ∧ s.hostAction .pause = { s with paused := true } ∧
    s.hostAction .resume = { s with paused := false }

/-- From every state step gives a next state, in which the tick counter is one more than after the host's actions due
before the cycle, the keyboard mapper is clean, the first entry of the host's coming actions is used up and the
configuration is as before. The host's actions stand in the model's own field (assumption log entry 10). -/
def Obligations.EveryStepSpendsOneCycle : Prop :=
  ∀ s : State, ∃ t, step s = .next t ∧ t.tick = s.takeHostActions.tick + 1 ∧ t.kdirty = false ∧ t.host = s.host.tail ∧
    t.config = s.config

/-- Running a cycles and then b cycles has the outcome of running a + b cycles, from every state. When the host acts is
the spec's decision D28 (assumption log entry 27). -/
def Obligations.AdvanceAddsUp : Prop :=
  ∀ (a b : Nat) (s t : State), advance a s = .next t → advance (a + b) s = advance b t

/-- From every state, and for every number of cycles, advance gives a next state: there is no fault, no halt and no
refusal. R120 marks it as derived from the category table and R110. -/
def Obligations.MachineNeverStops : Prop :=
  ∀ (n : Nat) (s : State), ∃ t, advance n s = .next t

/-- When a state is legal (both memories in canonical form; pc, ret and int below CAP; a legal scan position; no request
for address 0 queued) and step gives a next state, that state is legal too, whatever the host does before the cycle. -/
def Obligations.InvariantKeptByEveryStep : Prop :=
  ∀ s t : State, Inv s → step s = .next t → Inv t

/-- The state after reset, of every configuration, satisfies the invariant that every step keeps. The power-on values of
the devices are the spec's decision D30 (assumption log entry 26). -/
def Obligations.InvariantHoldsAtReset : Prop :=
  (∀ c : Configuration, Inv (State.powerOn c)) ∧ Inv State.reset

/-- A request for a non-zero address joins the queue at the back and a request for 0 is dropped; nothing else changes. The
latch accepts an address and says so when it is empty; when it is not, it refuses and keeps what it holds; nothing
else changes. That 0 means empty is the spec's decision D21 and the missing bound of the queue its decision D23
(assumption log entries 23 and 25). -/
def Obligations.LatchAndRequestRules : Prop :=
  ∀ (s : State) (v : Addr),
    (v ≠ 0 → s.request v = { s with iq := s.iq ++ [v] }) ∧ s.request 0 = s ∧
    (s.ilatch = 0 → s.interrupt v = ({ s with ilatch := v }, true)) ∧ (s.ilatch ≠ 0 → s.interrupt v = (s, false))

/-- With an empty queue, or with the latch occupied, arbitration changes nothing. With a request at the front and the
latch empty, the request moves into the latch, the rest of the queue stays in order, and the console is paused when
pause-on-interrupt is on; nothing else changes. -/
def Obligations.ArbiterServesTheFront : Prop :=
  ∀ (p : Bool) (s : State) (front : Addr) (rest : List Addr),
    (s.iq = [] → arbitrate p s = s) ∧
    (s.iq = front :: rest → s.ilatch ≠ 0 → arbitrate p s = s) ∧
    (s.iq = front :: rest → s.ilatch = 0 →
      arbitrate p s = { s with ilatch := front, iq := rest, paused := p || s.paused })

/-- In a state with memory in canonical form, after any number of key events, one at least, between two cycles: the byte
of every key named is 255 or 0 as the last event for it says, the last-key byte is the code of the last event, and
every other byte of memory is unchanged; the next keyboard cycle queues exactly one request, for the vector in key-
RAM, or none when that is 0, and the cycle after it queues none. -/
def Obligations.KeyEventsCoalesce : Prop :=
  ∀ (s : State) (events : List (Byte × Bool)) (last : Byte × Bool), canonical s →
    let u := (events ++ [last]).foldl (fun x e => x.setKey e.1 e.2) s
    u.byteAt (s.config.keyramBase + 2) = last.1 ∧ u.kdirty = true ∧ u.iq = s.iq ∧
    (∀ before e after, events ++ [last] = before ++ e :: after → (∀ x ∈ after, x.1 ≠ e.1) →
      u.byteAt (s.config.keyramBase + 8 + e.1.toNat) = if e.2 then 255 else 0) ∧
    (∀ a, a ≠ s.config.keyramBase + 2 → (∀ e ∈ events ++ [last], a ≠ s.config.keyramBase + 8 + e.1.toNat) →
      u.byteAt a = s.byteAt a) ∧
    (keyboardCycle u).iq = s.iq ++ (if s.memRead s.config.keyramBase .w16 = 0 then [] else [s.memRead s.config.keyramBase .w16]) ∧
    (keyboardCycle u).kdirty = false ∧ keyboardCycle (keyboardCycle u) = keyboardCycle u ∧
    SameMemory u (keyboardCycle u)

/-- From a state with a dirty keyboard mapper, a non-zero key vector, an empty queue and an empty latch, and no host
action due, one step gives a state in which the latch holds the vector: the request passed the queue in that cycle and
was not taken, for int holds what it held or the 0 a completed rint leaves. R329 marks it as derived; pause-on-
interrupt is opaque (assumption log entry 8). -/
def Obligations.KeyRequestIsLatchedInItsCycle : Prop :=
  ∀ s : State, s.host.headD [] = [] → s.kdirty = true → s.iq = [] → s.ilatch = 0 →
    s.memRead s.config.keyramBase .w16 ≠ 0 →
    ∃ t, step s = .next t ∧ t.ilatch = s.memRead s.config.keyramBase .w16 ∧ (t.int = s.int ∨ t.int = 0) ∧
      t.paused = (Config.pauseOnInterrupt || s.paused)

/-- At a legal scan position, with the frame buffer in canonical form, a pixel unit writes the four bytes of the pixel's
colour at its place in the frame buffer and no other byte of it, costs 2 cycles, moves to the next pixel or, at the
end of the scanline, to column 0 and the h-blank, and queues nothing and changes no byte of memory and no register. -/
def Obligations.PixelUnitWritesOnePixel : Prop :=
  ∀ (v : VideoParams) (s : State), s.vx < v.displayW → s.vy < v.displayH →
    Memory.wf (fun _ => 0) (frameBytes v) s.fb = true →
    (∀ j, j < 4 → Memory.read (fun _ => 0) (pixelUnit v s).fb ((s.vy * v.displayW + s.vx) * 4 + j) =
      (pixelRGBA v s s.vx s.vy)[j]?.getD 0) ∧
    (∀ a, (a < (s.vy * v.displayW + s.vx) * 4 ∨ (s.vy * v.displayW + s.vx) * 4 + 4 ≤ a) →
      Memory.read (fun _ => 0) (pixelUnit v s).fb a = Memory.read (fun _ => 0) s.fb a) ∧
    (pixelUnit v s).vrem = 2 ∧
    (s.vx + 1 < v.displayW → (pixelUnit v s).vx = s.vx + 1 ∧ (s.vphase = .pixel → (pixelUnit v s).vphase = .pixel)) ∧
    (s.vx + 1 = v.displayW → (pixelUnit v s).vx = 0 ∧ (pixelUnit v s).vphase = .hblank) ∧
    (pixelUnit v s).vy = s.vy ∧ (pixelUnit v s).vframe = s.vframe ∧ (pixelUnit v s).iq = s.iq ∧
    SameMemory s (pixelUnit v s) ∧ SameRegs s (pixelUnit v s) ∧ SameSpecials s (pixelUnit v s) ∧
    (pixelUnit v s).pc = s.pc ∧ (pixelUnit v s).ilatch = s.ilatch

/-- A pixel's four bytes are the background palette or the foreground palette and 255. In character mode the columns at
both edges take the background; a tile bank at or above the number of banks takes the background; every mode byte but
1 is block mode, in which the tile's bit decides at every column. The mode bytes 2 to 255 and the banks out of range
are the spec's decision D27; the tile's bit is open (assumption log entry 7). -/
def Obligations.PixelColourFromPalettes : Prop :=
  ∀ (v : VideoParams) (s : State) (x y : Nat),
    (pixelRGBA v s x y = [s.vramByte 1, s.vramByte 2, s.vramByte 3, 255] ∨
      pixelRGBA v s x y = [s.vramByte 4, s.vramByte 5, s.vramByte 6, 255]) ∧
    (s.vramByte 0 = 1 → (x < v.charHOffset ∨ v.displayW - v.charHOffset ≤ x) →
      pixelRGBA v s x y = [s.vramByte 1, s.vramByte 2, s.vramByte 3, 255]) ∧
    (v.tileBanks ≤ (s.vramByte 7).toNat → pixelRGBA v s x y = [s.vramByte 1, s.vramByte 2, s.vramByte 3, 255]) ∧
    (s.vramByte 0 ≠ 1 → (s.vramByte 7).toNat < v.tileBanks →
      pixelRGBA v s x y = if v.tileBit s.vramByte false (s.vramByte 7) x y = true
        then [s.vramByte 4, s.vramByte 5, s.vramByte 6, 255] else [s.vramByte 1, s.vramByte 2, s.vramByte 3, 255]) ∧
    (s.vramByte 0 = 1 → v.charHOffset ≤ x → x < v.displayW - v.charHOffset → (s.vramByte 7).toNat < v.tileBanks →
      pixelRGBA v s x y = if v.tileBit s.vramByte true (s.vramByte 7) x y = true
        then [s.vramByte 4, s.vramByte 5, s.vramByte 6, 255] else [s.vramByte 1, s.vramByte 2, s.vramByte 3, 255])

/-- The h-blank unit requests the vector at VRAM offset 10, costs 12 cycles and goes to the next scanline, or after the
last to the v-blank; the v-blank unit requests the vector at offset 12, costs what the frame leaves and counts the
frame, going to the sync unit after every 30th and else to the next pixel; the sync unit requests the vector at offset
8, costs the residual of the second and goes to the next pixel. A vector of 0 queues nothing. -/
def Obligations.BlankingUnitsRequestTheirVectors : Prop :=
  ∀ (v : VideoParams) (s : State),
    hblankUnit v s = { s with
      iq := s.iq ++ (if s.memRead (s.config.vramBase + 10) .w16 = 0 then [] else [s.memRead (s.config.vramBase + 10) .w16])
      vrem := 12
      vy := if s.vy + 1 = v.displayH then 0 else s.vy + 1
      vphase := if s.vy + 1 = v.displayH then .vblank else .pixel } ∧
    vblankUnit v s = { s with
      iq := s.iq ++ (if s.memRead (s.config.vramBase + 12) .w16 = 0 then [] else [s.memRead (s.config.vramBase + 12) .w16])
      vrem := cyclesPerVblank v
      vframe := if s.vframe + 1 = 30 then 0 else s.vframe + 1
      vphase := if s.vframe + 1 = 30 then .sync else .pixel } ∧
    syncUnit v s = { s with
      iq := s.iq ++ (if s.memRead (s.config.vramBase + 8) .w16 = 0 then [] else [s.memRead (s.config.vramBase + 8) .w16])
      vrem := cyclesPerSync v
      vphase := .pixel }

/-- While the current unit has cycles left, a video cycle spends one and does nothing else. When it has none, the
generator does one, two or three units of work, all but the last of cost 0 and the last of a cost above 0, and spends
one cycle of that cost: the loop of the rule ends, for every display and every clock. That a unit works in the first
cycle of its cost is the spec's decision D25 (assumption log entry 12). -/
def Obligations.VideoCycleStartsUnitsUntilOneCosts : Prop :=
  ∀ (v : VideoParams) (s : State),
    (s.vrem ≠ 0 → videoCycle v s = { s with vrem := s.vrem - 1 }) ∧
    (s.vrem = 0 → ∃ k, 1 ≤ k ∧ k ≤ 3 ∧ (∀ j, 1 ≤ j → j < k → ((videoUnit v)^[j] s).vrem = 0) ∧
      0 < ((videoUnit v)^[k] s).vrem ∧
      videoCycle v s = { (videoUnit v)^[k] s with vrem := ((videoUnit v)^[k] s).vrem - 1 })

/-- For every legal display and clock, the pixels and h-blanks of all scanlines and the v-blank take cycles_per_frame
cycles, and thirty frames with the residual take CLOCK_RATE cycles; at 1,000,000 cycles a second a frame has 33,333
cycles and the residual is 10. -/
def Obligations.FrameBudgetAddsUp : Prop :=
  ∀ v : VideoParams, v.displayH * (v.displayW * 2 + 12) + cyclesPerVblank v = cyclesPerFrame v ∧
    30 * cyclesPerFrame v + cyclesPerSync v = v.clockRate ∧ cyclesPerSync v < 30 ∧
    (v.clockRate = 1000000 → cyclesPerFrame v = 33333 ∧ cyclesPerSync v = 10)

/-- For every display and clock: from the first pixel of any frame but the last of a second, with no cycle left to spend,
cycles_per_frame cycles of the video generator come to the first pixel of the next frame, with no cycle left to spend;
they queue one h-blank request for each scanline and then one v-blank request, but for those whose vector is 0; memory
and every register are unchanged. Where the v-blank costs 0 cycles it is still due at that point, and the next cycle
goes on from the state after it. -/
def Obligations.FrameTakesItsCyclesAndRequests : Prop :=
  ∀ (v : VideoParams) (s : State), s.vphase = .pixel → s.vx = 0 → s.vy = 0 → s.vrem = 0 → s.vframe + 1 < 30 →
    let t := videoCycles v (cyclesPerFrame v) s
    let u := (videoUnit v)^[if cyclesPerVblank v = 0 then 1 else 0] t
    t.vrem = 0 ∧ videoCycle v t = videoCycle v u ∧
      u.vphase = .pixel ∧ u.vx = 0 ∧ u.vy = 0 ∧ u.vrem = 0 ∧ u.vframe = s.vframe + 1 ∧
      u.iq = s.iq ++ (List.replicate v.displayH (s.memRead (s.config.vramBase + 10) .w16) ++
        [s.memRead (s.config.vramBase + 12) .w16]).filter (fun a => decide (a ≠ 0)) ∧
      SameMemory s u ∧ SameRegs s u ∧ SameSpecials s u ∧ u.pc = s.pc ∧ u.ilatch = s.ilatch

/-- For every display and clock: from the first pixel of frame 0, with no cycle left to spend, CLOCK_RATE cycles of the
video generator come to the first pixel of frame 0 again, with no cycle left to spend; they queue, thirty times, one
h-blank request for each scanline and then one v-blank request, and at the end one sync request, but for those whose
vector is 0; memory and every register are unchanged. Where the residual of the second is 0 cycles, the sync unit, and
before it a v-blank that costs 0 cycles, are still due at that point, and the next cycle goes on from the state after
them. -/
def Obligations.SecondTakesClockRateCycles : Prop :=
  ∀ (v : VideoParams) (s : State), s.vphase = .pixel → s.vx = 0 → s.vy = 0 → s.vrem = 0 → s.vframe = 0 →
    let t := videoCycles v v.clockRate s
    let u := (videoUnit v)^[if cyclesPerSync v = 0 then (if cyclesPerVblank v = 0 then 2 else 1) else 0] t
    t.vrem = 0 ∧ videoCycle v t = videoCycle v u ∧
      u.vphase = .pixel ∧ u.vx = 0 ∧ u.vy = 0 ∧ u.vrem = 0 ∧ u.vframe = 0 ∧
      u.iq = s.iq ++ ((List.replicate 30 (List.replicate v.displayH (s.memRead (s.config.vramBase + 10) .w16) ++
        [s.memRead (s.config.vramBase + 12) .w16])).flatten ++
        [s.memRead (s.config.vramBase + 8) .w16]).filter (fun a => decide (a ≠ 0)) ∧
      SameMemory s u ∧ SameRegs s u ∧ SameSpecials s u ∧ u.pc = s.pc ∧ u.ilatch = s.ilatch

/-- After reset, under every configuration, every general register, pc, mem, ret and int are 0, the latch is empty and no
instruction is in flight; the queue is empty, the keyboard mapper clean, the scan at pixel (0, 0) of frame 0, the
frame buffer all 0, the tick counter 0, the console not paused; every byte of memory is 0 but for offsets 0 to 6 and
16 on inside the VRAM module, so the four interrupt vectors and the tile bank are 0. The machine the statements call
reset is that of the reference configuration. The devices' power-on values are the spec's decision D30, those of the
latch and the instruction in flight its decision D24, the limits of BOOT_VRAM its decision D38 (assumption log entries
5, 25 and 26); the reference configuration is that of assumption log entries 1 and 2. -/
def Obligations.ResetValues : Prop :=
  State.reset = State.powerOn Configuration.reference ∧
  ∀ c : Configuration,
    let r := State.powerOn c
    r.config = c ∧ (∀ n, n < 16 → r.reg n = 0) ∧ r.pc = 0 ∧ r.mem = 0 ∧ r.ret = 0 ∧ r.int = 0 ∧ r.ilatch = 0 ∧ r.crem = 0 ∧
    r.iq = [] ∧ r.kdirty = false ∧ r.vy = 0 ∧ r.vx = 0 ∧ r.vphase = .pixel ∧ r.vframe = 0 ∧ r.vrem = 0 ∧
    (∀ a, Memory.read (fun _ => 0) r.fb a = 0) ∧ r.tick = 0 ∧ r.paused = false ∧
    (∀ a, (a < c.vramBase ∨ (c.vramBase + 7 ≤ a ∧ a < c.vramBase + 16) ∨ c.vramBase + c.vramSize ≤ a) → r.byteAt a = 0) ∧
    r.memRead (c.vramBase + 8) .w16 = 0 ∧ r.memRead (c.vramBase + 10) .w16 = 0 ∧
    r.memRead (c.vramBase + 12) .w16 = 0 ∧ r.memRead c.keyramBase .w16 = 0 ∧ r.vramByte 7 = 0

/-- Reboot leaves every general and special register 0, the latch and the queue empty, no instruction in flight, the tick
counter 0, the console not paused, and memory as it is after reset; the keyboard mapper's flag, the scan position, the
frame buffer, the host's coming actions and the configuration are as before. The emptied queue is the spec's decision
D23, the emptied latch and the discarded instruction its decision D24 (assumption log entry 25). -/
def Obligations.RebootState : Prop :=
  ∀ s : State,
    (∀ n, n < 16 → s.reboot.reg n = 0) ∧ s.reboot.pc = 0 ∧ s.reboot.mem = 0 ∧ s.reboot.ret = 0 ∧ s.reboot.int = 0 ∧
    s.reboot.ilatch = 0 ∧ s.reboot.crem = 0 ∧ s.reboot.iq = [] ∧ s.reboot.tick = 0 ∧ s.reboot.paused = false ∧
    (∀ a, s.reboot.byteAt a = (State.powerOn s.config).byteAt a) ∧ s.reboot.kdirty = s.kdirty ∧ s.reboot.vy = s.vy ∧
    s.reboot.vx = s.vx ∧ s.reboot.vphase = s.vphase ∧ s.reboot.vframe = s.vframe ∧ s.reboot.vrem = s.vrem ∧
    s.reboot.fb = s.fb ∧ s.reboot.host = s.host ∧ s.reboot.config = s.config

/-- In a state with memory in canonical form, loading a program writes its bytes from the address on, those at or above
CAP dropped, and changes no other byte of memory; pc becomes the address modulo CAP, every other register 0, the latch
empty, no instruction in flight and the console not paused; the queue, the devices, the frame buffer, the tick
counter, the configuration, the host's coming actions and the record of the opcode byte last in flight are as before.
What it leaves is the spec's decision D23, the emptied latch and the discarded instruction its decision D24
(assumption log entry 25); that the record of the discarded instruction's opcode byte keeps its value is the model's
choice (assumption log entry 9), and the host's coming actions are the model's own field (assumption log entry 10). -/
def Obligations.LoadProgramState : Prop :=
  ∀ (s : State) (bytes : List Byte) (addr : Addr), canonical s →
    (∀ a, (s.loadProgram bytes addr).byteAt a =
      if addr.toNat ≤ a ∧ a < addr.toNat + bytes.length ∧ a < s.config.cap then bytes[a - addr.toNat]?.getD 0
      else s.byteAt a) ∧
    (s.loadProgram bytes addr).pc.toNat = addr.toNat % s.config.cap ∧
    (∀ n, n < 16 → (s.loadProgram bytes addr).reg n = 0) ∧ (s.loadProgram bytes addr).mem = 0 ∧
    (s.loadProgram bytes addr).ret = 0 ∧ (s.loadProgram bytes addr).int = 0 ∧
    SameHidden { s with ilatch := 0, crem := 0, paused := false } (s.loadProgram bytes addr)
end

