-- ==== Sys2Proof/Laws/Layout.lean ====
section
/-! SUPPORT. What the constraints on a configuration give: the bounds of `CAP`, one owner at most for every address, and
where the devices' modules lie. -/

namespace Sys2Proof

/-- The constraints of R6 and R51, one by one. -/
theorem Configuration.constraints (c : Configuration) :
    c.modules ≠ [] ∧ (∀ m ∈ c.modules, m.start % 4 = 0 ∧ m.capacity % 4 = 0) ∧
    (c.modules.Pairwise fun m n => m.apart n = true) ∧ (∀ m ∈ c.modules, m.start + m.capacity ≤ c.cap) ∧
    (4 ≤ c.cap ∧ c.cap ≤ 65536) ∧ c.holdsDevice c.vramBase 16 = true ∧ c.holdsDevice c.keyramBase 264 = true ∧
    c.vramBase ≠ c.keyramBase := by
  have h := c.isLegal
  simp only [Layout.legal, Bool.and_eq_true, decide_eq_true_eq, List.all_eq_true] at h
  obtain ⟨⟨⟨⟨⟨⟨⟨⟨h1, h2⟩, h3⟩, h4⟩, h5⟩, h6⟩, h7⟩, h8⟩, h9⟩ := h
  exact ⟨by simpa using h1, h2, h3, h4, ⟨h5, h6⟩, h7, h8, h9⟩

/-- The bounds of D32. -/
theorem Configuration.cap_bounds (c : Configuration) : 4 ≤ c.cap ∧ c.cap ≤ 65536 := c.constraints.2.2.2.2.1

theorem Module.owns_iff (m : Module) (a : Nat) : m.owns a = true ↔ m.start ≤ a ∧ a < m.start + m.capacity := by
  simp [Module.owns]

/-- Two modules of the list share no address (R51). -/
theorem Configuration.apart_of_ne (c : Configuration) {m n : Module} (hm : m ∈ c.modules) (hn : n ∈ c.modules)
    (hne : m ≠ n) : min (m.start + m.capacity) (n.start + n.capacity) ≤ max m.start n.start := by
  have : Std.Symm fun x y : Module => x.apart y = true :=
    ⟨fun x y h => by simp only [Module.apart, decide_eq_true_eq] at h ⊢; omega⟩
  simpa only [Module.apart, decide_eq_true_eq] using c.constraints.2.2.1.forall hm hn hne

/-- No address lies in two modules (R51). -/
theorem Configuration.owner_unique (c : Configuration) {m n : Module} {a : Nat} (hm : m ∈ c.modules) (hn : n ∈ c.modules)
    (om : m.owns a = true) (on : n.owns a = true) : m = n := by
  by_contra hne
  have h := c.apart_of_ne hm hn hne
  rw [Module.owns_iff] at om on
  omega

theorem Layout.owner_mem {l : Layout} {m : Module} {a : Nat} (h : l.owner a = some m) : m ∈ l.modules ∧ m.owns a = true :=
  ⟨List.mem_of_find?_eq_some h, by simpa using List.find?_some h⟩

/-- The module an address lies in is its owner (R51). -/
theorem Configuration.owner_eq (c : Configuration) {m : Module} {a : Nat} (hm : m ∈ c.modules) (om : m.owns a = true) :
    c.owner a = some m := by
  cases h : c.owner a with
  | none =>
    have := List.find?_eq_none.1 h m hm
    rw [om] at this; exact absurd rfl this
  | some n =>
    obtain ⟨hn, on⟩ := Layout.owner_mem h
    rw [c.owner_unique hm hn om on]

theorem Layout.holdsDevice_owner {l : Layout} {base size : Nat} (h : l.holdsDevice base size = true) :
    ∃ m, l.owner base = some m ∧ m.start = base ∧ size ≤ m.capacity := by
  unfold Layout.holdsDevice at h
  split at h
  · rename_i m e
    simp only [Bool.and_eq_true, decide_eq_true_eq] at h
    exact ⟨m, e, h.1, h.2⟩
  · cases h

/-- The VRAM module holds the video registers and lies inside the bus (R33). -/
theorem Configuration.vram_bounds (c : Configuration) : 16 ≤ c.vramSize ∧ c.vramBase + c.vramSize ≤ c.cap := by
  obtain ⟨m, e, hs, hc⟩ := Layout.holdsDevice_owner c.constraints.2.2.2.2.2.1
  have := c.constraints.2.2.2.1 m (Layout.owner_mem e).1
  unfold Configuration.vramSize
  rw [e]
  exact ⟨hc, by show c.vramBase + m.capacity ≤ c.cap; omega⟩

/-- The key-RAM module holds the keyboard's registers and lies inside the bus, apart from the VRAM module (R34). -/
theorem Configuration.keyram_bounds (c : Configuration) :
    c.keyramBase + 264 ≤ c.cap ∧ (c.keyramBase + 264 ≤ c.vramBase ∨ c.vramBase + c.vramSize ≤ c.keyramBase) := by
  obtain ⟨m, e, hs, hc⟩ := Layout.holdsDevice_owner c.constraints.2.2.2.2.2.1
  obtain ⟨n, e', hs', hc'⟩ := Layout.holdsDevice_owner c.constraints.2.2.2.2.2.2.1
  have hne : m ≠ n := by
    rintro rfl
    exact c.constraints.2.2.2.2.2.2.2 (hs.symm.trans hs')
  have h := c.apart_of_ne (Layout.owner_mem e).1 (Layout.owner_mem e').1 hne
  have := c.constraints.2.2.2.1 n (Layout.owner_mem e').1
  have hv : c.vramSize = m.capacity := by unfold Configuration.vramSize; rw [e]
  omega

end Sys2Proof
end

