-- ==== Sys2Proof/Laws/Memory.lean ====
section
/-! SUPPORT. Sparse memory: a read after a write, and the canonical form under every operation. -/

namespace Sys2Proof.Machine

open Sys2Proof.Safety

/-! ### Reading and writing one byte -/

theorem Memory.read_of_wfFrom (d : Nat → Byte) {a : Nat} : ∀ (m : Memory) (lo : Nat), Memory.wfFrom d lo m = true →
    a < lo → Memory.read d m a = d a
  | [], _, _, _ => rfl
  | (x, b) :: rest, lo, h, ha => by
    simp only [Memory.wfFrom, Bool.and_eq_true, decide_eq_true_eq] at h
    simp only [Memory.read]
    rw [if_neg (by omega)]
    exact Memory.read_of_wfFrom d rest (x + 1) h.2 (by omega)

theorem Memory.read_write_self (d : Nat → Byte) (a : Nat) (b : Byte) : ∀ (m : Memory) (lo : Nat),
    Memory.wfFrom d lo m = true → Memory.read d (Memory.write d m a b) a = b
  | [], lo, _ => by
    by_cases hb : b = d a <;> simp [Memory.write, hb, Memory.read]
  | (x, c) :: rest, lo, h => by
    simp only [Memory.wfFrom, Bool.and_eq_true, decide_eq_true_eq] at h
    unfold Memory.write
    by_cases h1 : a < x
    · by_cases hb : b = d a
      · simp only [h1, hb, if_true]
        exact Memory.read_of_wfFrom d ((x, c) :: rest) x (by simp [Memory.wfFrom, h.1.2, h.2]) h1
      · simp [h1, hb, Memory.read]
    · by_cases h2 : a = x
      · subst h2
        by_cases hb : b = d a
        · simp only [hb, if_true, lt_irrefl, if_false]
          exact Memory.read_of_wfFrom d rest (a + 1) h.2 (by omega)
        · simp [hb, Memory.read]
      · simp only [h1, h2, if_false, Memory.read]
        exact Memory.read_write_self d a b rest (x + 1) h.2

theorem Memory.read_write_other (d : Nat → Byte) (a : Nat) (b : Byte) (a' : Nat) (ha : a' ≠ a) : ∀ m : Memory,
    Memory.read d (Memory.write d m a b) a' = Memory.read d m a'
  | [] => by by_cases hb : b = d a <;> simp [Memory.write, hb, Memory.read, ha]
  | (x, c) :: rest => by
    have ih := Memory.read_write_other d a b a' ha rest
    unfold Memory.write
    by_cases h1 : a < x
    · by_cases hb : b = d a <;> simp [h1, hb, Memory.read, ha]
    · by_cases h2 : a = x
      · subst h2
        by_cases hb : b = d a <;> simp [hb, Memory.read, ha]
      · simp [h1, h2, Memory.read, ih]

theorem Memory.write_wfFrom (d : Nat → Byte) (a : Nat) (b : Byte) : ∀ (m : Memory) (lo : Nat),
    Memory.wfFrom d lo m = true → lo ≤ a → Memory.wfFrom d lo (Memory.write d m a b) = true
  | [], lo, _, ha => by by_cases hb : b = d a <;> simp [Memory.write, hb, Memory.wfFrom, ha]
  | (x, c) :: rest, lo, h, ha => by
    simp only [Memory.wfFrom, Bool.and_eq_true, decide_eq_true_eq] at h
    obtain ⟨⟨hx, hc⟩, hr⟩ := h
    have mono : Memory.wfFrom d lo rest = true := by
      cases rest with
      | nil => rfl
      | cons p q =>
        simp only [Memory.wfFrom, Bool.and_eq_true, decide_eq_true_eq] at hr ⊢
        exact ⟨⟨by omega, hr.1.2⟩, hr.2⟩
    unfold Memory.write
    by_cases h1 : a < x
    · by_cases hb : b = d a
      · simp [h1, hb, Memory.wfFrom, hx, hc, hr]
      · simp [h1, hb, Memory.wfFrom, ha, hc, hr]
    · by_cases h2 : a = x
      · subst h2
        by_cases hb : b = d a
        · simp [hb, mono]
        · simp [hb, Memory.wfFrom, ha, hr]
      · have := Memory.write_wfFrom d a b rest (x + 1) hr (by omega)
        simp [h1, h2, Memory.wfFrom, hx, hc, this]

theorem Memory.write_below (d : Nat → Byte) (cap a : Nat) (b : Byte) (ha : a < cap) : ∀ m : Memory,
    (m.all fun c => decide (c.1 < cap)) = true → ((Memory.write d m a b).all fun c => decide (c.1 < cap)) = true
  | [], _ => by by_cases hb : b = d a <;> simp [Memory.write, hb, ha]
  | (x, c) :: rest, h => by
    rw [List.all_cons, Bool.and_eq_true, decide_eq_true_eq] at h
    have ih := Memory.write_below d cap a b ha rest h.2
    unfold Memory.write
    by_cases h1 : a < x
    · by_cases hb : b = d a
      · rw [if_pos h1, if_pos hb, List.all_cons, h.2]; simpa using h.1
      · rw [if_pos h1, if_neg hb, List.all_cons, List.all_cons, h.2]; simpa using ⟨ha, h.1⟩
    · by_cases h2 : a = x
      · by_cases hb : b = d a
        · rw [if_neg h1, if_pos h2, if_pos hb, h.2]
        · rw [if_neg h1, if_pos h2, if_neg hb, List.all_cons, h.2]; simpa using ha
      · rw [if_neg h1, if_neg h2, List.all_cons, ih]; simpa using h.1

/-- A write below `cap` keeps the canonical form. -/
theorem Memory.wf_write (d : Nat → Byte) (cap : Nat) (m : Memory) (a : Nat) (b : Byte) (hm : Memory.wf d cap m = true)
    (ha : a < cap) : Memory.wf d cap (Memory.write d m a b) = true := by
  simp only [Memory.wf, Bool.and_eq_true] at hm ⊢
  exact ⟨Memory.write_wfFrom d a b m 0 hm.1 (by omega), Memory.write_below d cap a b ha m hm.2⟩

/-! ### Storing bytes -/

/-- Storing bytes keeps the canonical form. -/
theorem Memory.wf_store (d : Nat → Byte) (cap : Nat) : ∀ (bs : List Byte) (m : Memory) (a : Nat),
    Memory.wf d cap m = true → Memory.wf d cap (Memory.store d cap m a bs) = true
  | [], _, _, h => h
  | b :: bs, m, a, h => by
    unfold Memory.store
    apply Memory.wf_store
    by_cases ha : a < cap
    · simp only [ha, if_true]; exact Memory.wf_write d cap m a b h ha
    · simp only [ha, if_false]; exact h

/-- A byte outside those stored keeps its value, in every memory. -/
theorem Memory.read_store_other (d : Nat → Byte) (cap : Nat) : ∀ (bs : List Byte) (m : Memory) (a x : Nat),
    (x < a ∨ a + bs.length ≤ x ∨ cap ≤ x) →
    Memory.read d (Memory.store d cap m a bs) x = Memory.read d m x
  | [], _, _, _, _ => rfl
  | b :: bs, m, a, x, h => by
    simp only [List.length_cons] at h
    unfold Memory.store
    rw [Memory.read_store_other d cap bs _ (a + 1) x (by omega)]
    by_cases ha : a < cap
    · simp only [ha, if_true]; exact Memory.read_write_other d a b x (by omega) m
    · simp only [ha, if_false]

/-- A stored byte below `cap` reads as stored. -/
theorem Memory.read_store_self (d : Nat → Byte) (cap : Nat) : ∀ (bs : List Byte) (m : Memory) (a i : Nat),
    Memory.wf d cap m = true → a + i < cap → i < bs.length →
    Memory.read d (Memory.store d cap m a bs) (a + i) = bs[i]?.getD 0
  | [], _, _, i, _, _, hi => by simp at hi
  | b :: bs, m, a, i, hm, hc, hi => by
    unfold Memory.store
    rw [if_pos (by omega)]
    cases i with
    | zero =>
      rw [Memory.read_store_other d cap bs _ (a + 1) (a + 0) (by omega)]
      simp only [Memory.wf, Bool.and_eq_true] at hm
      simpa using Memory.read_write_self d a b m 0 hm.1
    | succ i =>
      have := Memory.read_store_self d cap bs (Memory.write d m a b) (a + 1) i
        (Memory.wf_write d cap m a b hm (by omega)) (by omega) (by simpa using hi)
      rw [show a + (i + 1) = a + 1 + i by omega, this]
      simp

/-! ### The bus -/

/-- Everything `storeBytes` can do to a byte: a stored one below `CAP` reads as stored, every other one as before. -/
theorem State.byteAt_storeBytes (s : State) (a : Nat) (bs : List Byte) (h : canonical s) (x : Nat) :
    (s.storeBytes a bs).byteAt x =
      if a ≤ x ∧ x < a + bs.length ∧ x < s.config.cap then bs[x - a]?.getD 0 else s.byteAt x := by
  unfold State.byteAt State.storeBytes
  by_cases hx : x < s.config.cap
  · simp only [hx, if_true, and_true]
    by_cases hr : a ≤ x ∧ x < a + bs.length
    · rw [if_pos hr]
      have := Memory.read_store_self s.config.resetByte s.config.cap bs s.bus a (x - a) h (by omega) (by omega)
      rwa [show a + (x - a) = x by omega] at this
    · rw [if_neg hr]
      exact Memory.read_store_other s.config.resetByte s.config.cap bs s.bus a x (by omega)
  · simp [hx]

theorem State.byteAt_storeBytes_other (s : State) (a : Nat) (bs : List Byte) (x : Nat) (h : x < a ∨ a + bs.length ≤ x) :
    (s.storeBytes a bs).byteAt x = s.byteAt x := by
  unfold State.byteAt State.storeBytes
  by_cases hx : x < s.config.cap
  · simp only [hx, if_true]
    exact Memory.read_store_other s.config.resetByte s.config.cap bs s.bus a x (by omega)
  · simp [hx]

theorem State.canonical_storeBytes (s : State) (a : Nat) (bs : List Byte) (h : canonical s) :
    canonical (s.storeBytes a bs) :=
  Memory.wf_store s.config.resetByte s.config.cap bs s.bus a h

theorem State.canonical_memWrite (s : State) (a : Nat) (w : Width) (v : BitVec w.bits) (h : canonical s) :
    canonical (s.memWrite a w v) := by
  unfold State.memWrite
  split
  · exact h
  · split
    · exact h
    · exact s.canonical_storeBytes a _ h

theorem State.canonical_bulkCopy (s : State) (src dst size : Nat) (h : canonical s) :
    canonical (s.bulkCopy src dst size) := s.canonical_storeBytes dst _ h

theorem State.canonical_bulkClear (s : State) (start : Nat) (value : Byte) (size : Nat) (h : canonical s) :
    canonical (s.bulkClear start value size) := s.canonical_storeBytes start _ h

theorem State.canonical_placeBytes : ∀ (bs : List Byte) (s : State) (a : Nat), canonical s → canonical (s.placeBytes a bs)
  | [], _, _, h => h
  | b :: bs, s, a, h => by
    unfold State.placeBytes
    exact State.canonical_placeBytes bs _ (a + 1) (s.canonical_storeBytes _ _ h)

theorem State.canonical_setKey (s : State) (code : Byte) (isDown : Bool) (h : canonical s) :
    canonical (s.setKey code isDown) :=
  (s.storeBytes (s.config.keyramBase + 8 + code.toNat) [if isDown then 255 else 0]).canonical_storeBytes
    (s.config.keyramBase + 2) [code] (s.canonical_storeBytes _ _ h)

theorem State.canonical_loadProgram (s : State) (bytes : List Byte) (addr : Addr) (h : canonical s) :
    canonical (s.loadProgram bytes addr) := s.canonical_storeBytes _ _ h

theorem State.canonical_reboot (s : State) : canonical s.reboot := rfl

/-- Nothing is listed after power-on, so the memory is in canonical form. -/
theorem State.canonical_powerOn (c : Configuration) : canonical (State.powerOn c) := rfl

/-- No byte at or above `CAP` is anything but 0 (R55, R57). -/
theorem State.byteAt_beyond (s : State) (a : Nat) (h : s.config.cap ≤ a) : s.byteAt a = 0 := by
  unfold State.byteAt
  rw [if_neg (by omega)]

/-! ### Little-endian bytes -/

theorem leBytes_length : ∀ k v : Nat, (leBytes k v).length = k
  | 0, _ => rfl
  | k + 1, v => by simp [leBytes, leBytes_length k]

theorem leNat_lt : ∀ bs : List Byte, leNat bs < 256 ^ bs.length
  | [] => by simp [leNat]
  | b :: bs => by
    have := leNat_lt bs
    have hb := b.isLt
    simp only [leNat, List.length_cons, Nat.pow_succ]
    omega

theorem leNat_leBytes : ∀ k v : Nat, leNat (leBytes k v) = v % 256 ^ k
  | 0, v => by simp [leNat, leBytes, Nat.mod_one]
  | k + 1, v => by
    rw [leBytes, leNat, leNat_leBytes k, BitVec.toNat_ofNat, show 256 ^ (k + 1) = 256 * 256 ^ k from Nat.pow_succ', Nat.mod_mul]

theorem leBytes_leNat : ∀ bs : List Byte, leBytes bs.length (leNat bs) = bs
  | [] => rfl
  | b :: bs => by
    have hb := b.isLt
    simp only [List.length_cons, leBytes, leNat]
    rw [show (b.toNat + 256 * leNat bs) / 256 = leNat bs by omega, leBytes_leNat bs]
    congr 1
    apply BitVec.eq_of_toNat_eq
    simp only [BitVec.toNat_ofNat]
    omega

theorem leBytes_getElem : ∀ (k v i : Nat), i < k → (leBytes k v)[i]?.getD 0 = BitVec.ofNat 8 (v / 256 ^ i)
  | 0, _, _, h => by omega
  | k + 1, v, 0, _ => by simp [leBytes]
  | k + 1, v, i + 1, h => by
    simp only [leBytes, List.getElem?_cons_succ]
    rw [leBytes_getElem k (v / 256) i (by omega), Nat.div_div_eq_div_mul, Nat.pow_succ, Nat.mul_comm 256]

theorem leNat_byte : ∀ (bs : List Byte) (i : Nat), i < bs.length →
    BitVec.ofNat 8 (leNat bs / 256 ^ i) = bs[i]?.getD 0 := by
  intro bs i h
  rw [← leBytes_getElem bs.length (leNat bs) i h, leBytes_leNat]

theorem pow_bytes (w : Width) : 256 ^ w.bytes = 2 ^ w.bits := by cases w <;> rfl

theorem byte_of_value {n : Nat} (v : BitVec n) (i : Nat) : v.extractLsb' (8 * i) 8 = BitVec.ofNat 8 (v.toNat / 256 ^ i) := by
  apply BitVec.eq_of_toNat_eq
  simp only [BitVec.extractLsb'_toNat, BitVec.toNat_ofNat, Nat.shiftRight_eq_div_pow]
  rw [Nat.pow_mul]

/-- The bytes of a value, put together again. -/
theorem ofNat_leNat_leBytes (w : Width) (v : BitVec w.bits) :
    BitVec.ofNat w.bits (leNat (leBytes w.bytes v.toNat)) = v := by
  rw [leNat_leBytes, pow_bytes]
  apply BitVec.eq_of_toNat_eq
  simp only [BitVec.toNat_ofNat, Nat.mod_mod]
  exact Nat.mod_eq_of_lt v.isLt

/-- Byte `i` of a value assembled from `W/8` bytes. -/
theorem byte_of_leNat (w : Width) (bs : List Byte) (hl : bs.length = w.bytes) (i : Nat) (hi : i < w.bytes) :
    (BitVec.ofNat w.bits (leNat bs)).extractLsb' (8 * i) 8 = bs[i]?.getD 0 := by
  have hlt := leNat_lt bs
  rw [hl, pow_bytes] at hlt
  rw [byte_of_value, BitVec.toNat_ofNat, Nat.mod_eq_of_lt hlt, leNat_byte bs i (by omega)]

end Sys2Proof.Machine
end

