-- ==== Sys2Proof/Laws/State.lean ====
section
/-! SUPPORT. What each update of the state does to each of its fields, true by unfolding, so that no proof unfolds an
update. -/

namespace Sys2Proof.Machine

@[simp] theorem State.storeBytes_config (s : State) (a : Nat) (bs : List Byte) : (s.storeBytes a bs).config = s.config := rfl
@[simp] theorem State.storeBytes_regs (s : State) (a : Nat) (bs : List Byte) : (s.storeBytes a bs).regs = s.regs := rfl
@[simp] theorem State.storeBytes_pc (s : State) (a : Nat) (bs : List Byte) : (s.storeBytes a bs).pc = s.pc := rfl
@[simp] theorem State.storeBytes_mem (s : State) (a : Nat) (bs : List Byte) : (s.storeBytes a bs).mem = s.mem := rfl
@[simp] theorem State.storeBytes_ret (s : State) (a : Nat) (bs : List Byte) : (s.storeBytes a bs).ret = s.ret := rfl
@[simp] theorem State.storeBytes_int (s : State) (a : Nat) (bs : List Byte) : (s.storeBytes a bs).int = s.int := rfl
@[simp] theorem State.storeBytes_ilatch (s : State) (a : Nat) (bs : List Byte) : (s.storeBytes a bs).ilatch = s.ilatch := rfl
@[simp] theorem State.storeBytes_crem (s : State) (a : Nat) (bs : List Byte) : (s.storeBytes a bs).crem = s.crem := rfl
@[simp] theorem State.storeBytes_cop (s : State) (a : Nat) (bs : List Byte) : (s.storeBytes a bs).cop = s.cop := rfl
@[simp] theorem State.storeBytes_bus (s : State) (a : Nat) (bs : List Byte) : (s.storeBytes a bs).bus =
    Memory.store s.config.resetByte s.config.cap s.bus a bs := rfl
@[simp] theorem State.storeBytes_iq (s : State) (a : Nat) (bs : List Byte) : (s.storeBytes a bs).iq = s.iq := rfl
@[simp] theorem State.storeBytes_kdirty (s : State) (a : Nat) (bs : List Byte) : (s.storeBytes a bs).kdirty = s.kdirty := rfl
@[simp] theorem State.storeBytes_vy (s : State) (a : Nat) (bs : List Byte) : (s.storeBytes a bs).vy = s.vy := rfl
@[simp] theorem State.storeBytes_vx (s : State) (a : Nat) (bs : List Byte) : (s.storeBytes a bs).vx = s.vx := rfl
@[simp] theorem State.storeBytes_vphase (s : State) (a : Nat) (bs : List Byte) : (s.storeBytes a bs).vphase = s.vphase := rfl
@[simp] theorem State.storeBytes_vframe (s : State) (a : Nat) (bs : List Byte) : (s.storeBytes a bs).vframe = s.vframe := rfl
@[simp] theorem State.storeBytes_vrem (s : State) (a : Nat) (bs : List Byte) : (s.storeBytes a bs).vrem = s.vrem := rfl
@[simp] theorem State.storeBytes_fb (s : State) (a : Nat) (bs : List Byte) : (s.storeBytes a bs).fb = s.fb := rfl
@[simp] theorem State.storeBytes_tick (s : State) (a : Nat) (bs : List Byte) : (s.storeBytes a bs).tick = s.tick := rfl
@[simp] theorem State.storeBytes_paused (s : State) (a : Nat) (bs : List Byte) : (s.storeBytes a bs).paused = s.paused := rfl
@[simp] theorem State.storeBytes_host (s : State) (a : Nat) (bs : List Byte) : (s.storeBytes a bs).host = s.host := rfl
@[simp] theorem State.bulkCopy_config (s : State) (src dst size : Nat) : (s.bulkCopy src dst size).config = s.config := rfl
@[simp] theorem State.bulkCopy_regs (s : State) (src dst size : Nat) : (s.bulkCopy src dst size).regs = s.regs := rfl
@[simp] theorem State.bulkCopy_pc (s : State) (src dst size : Nat) : (s.bulkCopy src dst size).pc = s.pc := rfl
@[simp] theorem State.bulkCopy_mem (s : State) (src dst size : Nat) : (s.bulkCopy src dst size).mem = s.mem := rfl
@[simp] theorem State.bulkCopy_ret (s : State) (src dst size : Nat) : (s.bulkCopy src dst size).ret = s.ret := rfl
@[simp] theorem State.bulkCopy_int (s : State) (src dst size : Nat) : (s.bulkCopy src dst size).int = s.int := rfl
@[simp] theorem State.bulkCopy_ilatch (s : State) (src dst size : Nat) : (s.bulkCopy src dst size).ilatch = s.ilatch := rfl
@[simp] theorem State.bulkCopy_crem (s : State) (src dst size : Nat) : (s.bulkCopy src dst size).crem = s.crem := rfl
@[simp] theorem State.bulkCopy_cop (s : State) (src dst size : Nat) : (s.bulkCopy src dst size).cop = s.cop := rfl
@[simp] theorem State.bulkCopy_bus (s : State) (src dst size : Nat) : (s.bulkCopy src dst size).bus =
    (s.storeBytes dst (s.bytesAt src (bulkCopySize s.config.cap src dst size))).bus := rfl
@[simp] theorem State.bulkCopy_iq (s : State) (src dst size : Nat) : (s.bulkCopy src dst size).iq = s.iq := rfl
@[simp] theorem State.bulkCopy_kdirty (s : State) (src dst size : Nat) : (s.bulkCopy src dst size).kdirty = s.kdirty := rfl
@[simp] theorem State.bulkCopy_vy (s : State) (src dst size : Nat) : (s.bulkCopy src dst size).vy = s.vy := rfl
@[simp] theorem State.bulkCopy_vx (s : State) (src dst size : Nat) : (s.bulkCopy src dst size).vx = s.vx := rfl
@[simp] theorem State.bulkCopy_vphase (s : State) (src dst size : Nat) : (s.bulkCopy src dst size).vphase = s.vphase := rfl
@[simp] theorem State.bulkCopy_vframe (s : State) (src dst size : Nat) : (s.bulkCopy src dst size).vframe = s.vframe := rfl
@[simp] theorem State.bulkCopy_vrem (s : State) (src dst size : Nat) : (s.bulkCopy src dst size).vrem = s.vrem := rfl
@[simp] theorem State.bulkCopy_fb (s : State) (src dst size : Nat) : (s.bulkCopy src dst size).fb = s.fb := rfl
@[simp] theorem State.bulkCopy_tick (s : State) (src dst size : Nat) : (s.bulkCopy src dst size).tick = s.tick := rfl
@[simp] theorem State.bulkCopy_paused (s : State) (src dst size : Nat) : (s.bulkCopy src dst size).paused = s.paused := rfl
@[simp] theorem State.bulkCopy_host (s : State) (src dst size : Nat) : (s.bulkCopy src dst size).host = s.host := rfl
@[simp] theorem State.bulkClear_config (s : State) (start : Nat) (value : Byte) (size : Nat) : (s.bulkClear start value size).config = s.config := rfl
@[simp] theorem State.bulkClear_regs (s : State) (start : Nat) (value : Byte) (size : Nat) : (s.bulkClear start value size).regs = s.regs := rfl
@[simp] theorem State.bulkClear_pc (s : State) (start : Nat) (value : Byte) (size : Nat) : (s.bulkClear start value size).pc = s.pc := rfl
@[simp] theorem State.bulkClear_mem (s : State) (start : Nat) (value : Byte) (size : Nat) : (s.bulkClear start value size).mem = s.mem := rfl
@[simp] theorem State.bulkClear_ret (s : State) (start : Nat) (value : Byte) (size : Nat) : (s.bulkClear start value size).ret = s.ret := rfl
@[simp] theorem State.bulkClear_int (s : State) (start : Nat) (value : Byte) (size : Nat) : (s.bulkClear start value size).int = s.int := rfl
@[simp] theorem State.bulkClear_ilatch (s : State) (start : Nat) (value : Byte) (size : Nat) : (s.bulkClear start value size).ilatch = s.ilatch := rfl
@[simp] theorem State.bulkClear_crem (s : State) (start : Nat) (value : Byte) (size : Nat) : (s.bulkClear start value size).crem = s.crem := rfl
@[simp] theorem State.bulkClear_cop (s : State) (start : Nat) (value : Byte) (size : Nat) : (s.bulkClear start value size).cop = s.cop := rfl
@[simp] theorem State.bulkClear_bus (s : State) (start : Nat) (value : Byte) (size : Nat) : (s.bulkClear start value size).bus =
    (s.storeBytes start (List.replicate (min size (s.config.cap - start)) value)).bus := rfl
@[simp] theorem State.bulkClear_iq (s : State) (start : Nat) (value : Byte) (size : Nat) : (s.bulkClear start value size).iq = s.iq := rfl
@[simp] theorem State.bulkClear_kdirty (s : State) (start : Nat) (value : Byte) (size : Nat) : (s.bulkClear start value size).kdirty = s.kdirty := rfl
@[simp] theorem State.bulkClear_vy (s : State) (start : Nat) (value : Byte) (size : Nat) : (s.bulkClear start value size).vy = s.vy := rfl
@[simp] theorem State.bulkClear_vx (s : State) (start : Nat) (value : Byte) (size : Nat) : (s.bulkClear start value size).vx = s.vx := rfl
@[simp] theorem State.bulkClear_vphase (s : State) (start : Nat) (value : Byte) (size : Nat) : (s.bulkClear start value size).vphase = s.vphase := rfl
@[simp] theorem State.bulkClear_vframe (s : State) (start : Nat) (value : Byte) (size : Nat) : (s.bulkClear start value size).vframe = s.vframe := rfl
@[simp] theorem State.bulkClear_vrem (s : State) (start : Nat) (value : Byte) (size : Nat) : (s.bulkClear start value size).vrem = s.vrem := rfl
@[simp] theorem State.bulkClear_fb (s : State) (start : Nat) (value : Byte) (size : Nat) : (s.bulkClear start value size).fb = s.fb := rfl
@[simp] theorem State.bulkClear_tick (s : State) (start : Nat) (value : Byte) (size : Nat) : (s.bulkClear start value size).tick = s.tick := rfl
@[simp] theorem State.bulkClear_paused (s : State) (start : Nat) (value : Byte) (size : Nat) : (s.bulkClear start value size).paused = s.paused := rfl
@[simp] theorem State.bulkClear_host (s : State) (start : Nat) (value : Byte) (size : Nat) : (s.bulkClear start value size).host = s.host := rfl
@[simp] theorem State.gwrite_config (s : State) (n : Nat) (w : Width) (v : BitVec w.bits) : (s.gwrite n w v).config = s.config := rfl
@[simp] theorem State.gwrite_regs (s : State) (n : Nat) (w : Width) (v : BitVec w.bits) : (s.gwrite n w v).regs =
    putRegs s.regs n (leBytes w.bytes v.toNat) := rfl
@[simp] theorem State.gwrite_pc (s : State) (n : Nat) (w : Width) (v : BitVec w.bits) : (s.gwrite n w v).pc = s.pc := rfl
@[simp] theorem State.gwrite_mem (s : State) (n : Nat) (w : Width) (v : BitVec w.bits) : (s.gwrite n w v).mem = s.mem := rfl
@[simp] theorem State.gwrite_ret (s : State) (n : Nat) (w : Width) (v : BitVec w.bits) : (s.gwrite n w v).ret = s.ret := rfl
@[simp] theorem State.gwrite_int (s : State) (n : Nat) (w : Width) (v : BitVec w.bits) : (s.gwrite n w v).int = s.int := rfl
@[simp] theorem State.gwrite_ilatch (s : State) (n : Nat) (w : Width) (v : BitVec w.bits) : (s.gwrite n w v).ilatch = s.ilatch := rfl
@[simp] theorem State.gwrite_crem (s : State) (n : Nat) (w : Width) (v : BitVec w.bits) : (s.gwrite n w v).crem = s.crem := rfl
@[simp] theorem State.gwrite_cop (s : State) (n : Nat) (w : Width) (v : BitVec w.bits) : (s.gwrite n w v).cop = s.cop := rfl
@[simp] theorem State.gwrite_bus (s : State) (n : Nat) (w : Width) (v : BitVec w.bits) : (s.gwrite n w v).bus = s.bus := rfl
@[simp] theorem State.gwrite_iq (s : State) (n : Nat) (w : Width) (v : BitVec w.bits) : (s.gwrite n w v).iq = s.iq := rfl
@[simp] theorem State.gwrite_kdirty (s : State) (n : Nat) (w : Width) (v : BitVec w.bits) : (s.gwrite n w v).kdirty = s.kdirty := rfl
@[simp] theorem State.gwrite_vy (s : State) (n : Nat) (w : Width) (v : BitVec w.bits) : (s.gwrite n w v).vy = s.vy := rfl
@[simp] theorem State.gwrite_vx (s : State) (n : Nat) (w : Width) (v : BitVec w.bits) : (s.gwrite n w v).vx = s.vx := rfl
@[simp] theorem State.gwrite_vphase (s : State) (n : Nat) (w : Width) (v : BitVec w.bits) : (s.gwrite n w v).vphase = s.vphase := rfl
@[simp] theorem State.gwrite_vframe (s : State) (n : Nat) (w : Width) (v : BitVec w.bits) : (s.gwrite n w v).vframe = s.vframe := rfl
@[simp] theorem State.gwrite_vrem (s : State) (n : Nat) (w : Width) (v : BitVec w.bits) : (s.gwrite n w v).vrem = s.vrem := rfl
@[simp] theorem State.gwrite_fb (s : State) (n : Nat) (w : Width) (v : BitVec w.bits) : (s.gwrite n w v).fb = s.fb := rfl
@[simp] theorem State.gwrite_tick (s : State) (n : Nat) (w : Width) (v : BitVec w.bits) : (s.gwrite n w v).tick = s.tick := rfl
@[simp] theorem State.gwrite_paused (s : State) (n : Nat) (w : Width) (v : BitVec w.bits) : (s.gwrite n w v).paused = s.paused := rfl
@[simp] theorem State.gwrite_host (s : State) (n : Nat) (w : Width) (v : BitVec w.bits) : (s.gwrite n w v).host = s.host := rfl
@[simp] theorem State.readArgs_config (s : State) (k : Nat) : (s.readArgs k).config = s.config := by unfold State.readArgs; rfl
@[simp] theorem State.readArgs_regs (s : State) (k : Nat) : (s.readArgs k).regs = s.regs := by unfold State.readArgs; rfl
@[simp] theorem State.readArgs_pc (s : State) (k : Nat) : (s.readArgs k).pc =
    wrap s.config (s.pc.toNat + k) := rfl
@[simp] theorem State.readArgs_mem (s : State) (k : Nat) : (s.readArgs k).mem = s.mem := by unfold State.readArgs; rfl
@[simp] theorem State.readArgs_ret (s : State) (k : Nat) : (s.readArgs k).ret = s.ret := by unfold State.readArgs; rfl
@[simp] theorem State.readArgs_int (s : State) (k : Nat) : (s.readArgs k).int = s.int := by unfold State.readArgs; rfl
@[simp] theorem State.readArgs_ilatch (s : State) (k : Nat) : (s.readArgs k).ilatch = s.ilatch := by unfold State.readArgs; rfl
@[simp] theorem State.readArgs_crem (s : State) (k : Nat) : (s.readArgs k).crem = s.crem := by unfold State.readArgs; rfl
@[simp] theorem State.readArgs_cop (s : State) (k : Nat) : (s.readArgs k).cop = s.cop := by unfold State.readArgs; rfl
@[simp] theorem State.readArgs_bus (s : State) (k : Nat) : (s.readArgs k).bus = s.bus := by unfold State.readArgs; rfl
@[simp] theorem State.readArgs_iq (s : State) (k : Nat) : (s.readArgs k).iq = s.iq := by unfold State.readArgs; rfl
@[simp] theorem State.readArgs_kdirty (s : State) (k : Nat) : (s.readArgs k).kdirty = s.kdirty := by unfold State.readArgs; rfl
@[simp] theorem State.readArgs_vy (s : State) (k : Nat) : (s.readArgs k).vy = s.vy := by unfold State.readArgs; rfl
@[simp] theorem State.readArgs_vx (s : State) (k : Nat) : (s.readArgs k).vx = s.vx := by unfold State.readArgs; rfl
@[simp] theorem State.readArgs_vphase (s : State) (k : Nat) : (s.readArgs k).vphase = s.vphase := by unfold State.readArgs; rfl
@[simp] theorem State.readArgs_vframe (s : State) (k : Nat) : (s.readArgs k).vframe = s.vframe := by unfold State.readArgs; rfl
@[simp] theorem State.readArgs_vrem (s : State) (k : Nat) : (s.readArgs k).vrem = s.vrem := by unfold State.readArgs; rfl
@[simp] theorem State.readArgs_fb (s : State) (k : Nat) : (s.readArgs k).fb = s.fb := by unfold State.readArgs; rfl
@[simp] theorem State.readArgs_tick (s : State) (k : Nat) : (s.readArgs k).tick = s.tick := by unfold State.readArgs; rfl
@[simp] theorem State.readArgs_paused (s : State) (k : Nat) : (s.readArgs k).paused = s.paused := by unfold State.readArgs; rfl
@[simp] theorem State.readArgs_host (s : State) (k : Nat) : (s.readArgs k).host = s.host := by unfold State.readArgs; rfl
@[simp] theorem State.nextOpcode_config (s : State) : (s.nextOpcode).config = s.config := by unfold State.nextOpcode; rfl
@[simp] theorem State.nextOpcode_regs (s : State) : (s.nextOpcode).regs = s.regs := by unfold State.nextOpcode; rfl
@[simp] theorem State.nextOpcode_pc (s : State) : (s.nextOpcode).pc =
    wrap s.config (s.pc.toNat + 1) := rfl
@[simp] theorem State.nextOpcode_mem (s : State) : (s.nextOpcode).mem = s.mem := by unfold State.nextOpcode; rfl
@[simp] theorem State.nextOpcode_ret (s : State) : (s.nextOpcode).ret = s.ret := by unfold State.nextOpcode; rfl
@[simp] theorem State.nextOpcode_int (s : State) : (s.nextOpcode).int = s.int := by unfold State.nextOpcode; rfl
@[simp] theorem State.nextOpcode_ilatch (s : State) : (s.nextOpcode).ilatch = s.ilatch := by unfold State.nextOpcode; rfl
@[simp] theorem State.nextOpcode_crem (s : State) : (s.nextOpcode).crem = s.crem := by unfold State.nextOpcode; rfl
@[simp] theorem State.nextOpcode_cop (s : State) : (s.nextOpcode).cop = s.cop := by unfold State.nextOpcode; rfl
@[simp] theorem State.nextOpcode_bus (s : State) : (s.nextOpcode).bus = s.bus := by unfold State.nextOpcode; rfl
@[simp] theorem State.nextOpcode_iq (s : State) : (s.nextOpcode).iq = s.iq := by unfold State.nextOpcode; rfl
@[simp] theorem State.nextOpcode_kdirty (s : State) : (s.nextOpcode).kdirty = s.kdirty := by unfold State.nextOpcode; rfl
@[simp] theorem State.nextOpcode_vy (s : State) : (s.nextOpcode).vy = s.vy := by unfold State.nextOpcode; rfl
@[simp] theorem State.nextOpcode_vx (s : State) : (s.nextOpcode).vx = s.vx := by unfold State.nextOpcode; rfl
@[simp] theorem State.nextOpcode_vphase (s : State) : (s.nextOpcode).vphase = s.vphase := by unfold State.nextOpcode; rfl
@[simp] theorem State.nextOpcode_vframe (s : State) : (s.nextOpcode).vframe = s.vframe := by unfold State.nextOpcode; rfl
@[simp] theorem State.nextOpcode_vrem (s : State) : (s.nextOpcode).vrem = s.vrem := by unfold State.nextOpcode; rfl
@[simp] theorem State.nextOpcode_fb (s : State) : (s.nextOpcode).fb = s.fb := by unfold State.nextOpcode; rfl
@[simp] theorem State.nextOpcode_tick (s : State) : (s.nextOpcode).tick = s.tick := by unfold State.nextOpcode; rfl
@[simp] theorem State.nextOpcode_paused (s : State) : (s.nextOpcode).paused = s.paused := by unfold State.nextOpcode; rfl
@[simp] theorem State.nextOpcode_host (s : State) : (s.nextOpcode).host = s.host := by unfold State.nextOpcode; rfl
@[simp] theorem State.jump_config (s : State) (t : Addr) : (s.jump t).config = s.config := by unfold State.jump; rfl
@[simp] theorem State.jump_regs (s : State) (t : Addr) : (s.jump t).regs = s.regs := by unfold State.jump; rfl
@[simp] theorem State.jump_pc (s : State) (t : Addr) : (s.jump t).pc =
    wrap s.config (t.toNat + s.config.cap - 1) := rfl
@[simp] theorem State.jump_mem (s : State) (t : Addr) : (s.jump t).mem = s.mem := by unfold State.jump; rfl
@[simp] theorem State.jump_ret (s : State) (t : Addr) : (s.jump t).ret = s.ret := by unfold State.jump; rfl
@[simp] theorem State.jump_int (s : State) (t : Addr) : (s.jump t).int = s.int := by unfold State.jump; rfl
@[simp] theorem State.jump_ilatch (s : State) (t : Addr) : (s.jump t).ilatch = s.ilatch := by unfold State.jump; rfl
@[simp] theorem State.jump_crem (s : State) (t : Addr) : (s.jump t).crem = s.crem := by unfold State.jump; rfl
@[simp] theorem State.jump_cop (s : State) (t : Addr) : (s.jump t).cop = s.cop := by unfold State.jump; rfl
@[simp] theorem State.jump_bus (s : State) (t : Addr) : (s.jump t).bus = s.bus := by unfold State.jump; rfl
@[simp] theorem State.jump_iq (s : State) (t : Addr) : (s.jump t).iq = s.iq := by unfold State.jump; rfl
@[simp] theorem State.jump_kdirty (s : State) (t : Addr) : (s.jump t).kdirty = s.kdirty := by unfold State.jump; rfl
@[simp] theorem State.jump_vy (s : State) (t : Addr) : (s.jump t).vy = s.vy := by unfold State.jump; rfl
@[simp] theorem State.jump_vx (s : State) (t : Addr) : (s.jump t).vx = s.vx := by unfold State.jump; rfl
@[simp] theorem State.jump_vphase (s : State) (t : Addr) : (s.jump t).vphase = s.vphase := by unfold State.jump; rfl
@[simp] theorem State.jump_vframe (s : State) (t : Addr) : (s.jump t).vframe = s.vframe := by unfold State.jump; rfl
@[simp] theorem State.jump_vrem (s : State) (t : Addr) : (s.jump t).vrem = s.vrem := by unfold State.jump; rfl
@[simp] theorem State.jump_fb (s : State) (t : Addr) : (s.jump t).fb = s.fb := by unfold State.jump; rfl
@[simp] theorem State.jump_tick (s : State) (t : Addr) : (s.jump t).tick = s.tick := by unfold State.jump; rfl
@[simp] theorem State.jump_paused (s : State) (t : Addr) : (s.jump t).paused = s.paused := by unfold State.jump; rfl
@[simp] theorem State.jump_host (s : State) (t : Addr) : (s.jump t).host = s.host := by unfold State.jump; rfl
@[simp] theorem State.takeInterrupt_config (s : State) : (s.takeInterrupt).config = s.config := by unfold State.takeInterrupt; rfl
@[simp] theorem State.takeInterrupt_regs (s : State) : (s.takeInterrupt).regs = s.regs := by unfold State.takeInterrupt; rfl
@[simp] theorem State.takeInterrupt_pc (s : State) : (s.takeInterrupt).pc =
    if s.ilatch = 0 then s.pc else wrap s.config s.ilatch.toNat := rfl
@[simp] theorem State.takeInterrupt_mem (s : State) : (s.takeInterrupt).mem = s.mem := by unfold State.takeInterrupt; rfl
@[simp] theorem State.takeInterrupt_ret (s : State) : (s.takeInterrupt).ret = s.ret := by unfold State.takeInterrupt; rfl
@[simp] theorem State.takeInterrupt_int (s : State) : (s.takeInterrupt).int =
    if s.ilatch = 0 then s.int else s.pc := rfl
@[simp] theorem State.takeInterrupt_ilatch (s : State) : (s.takeInterrupt).ilatch =
    0 := rfl
@[simp] theorem State.takeInterrupt_crem (s : State) : (s.takeInterrupt).crem = s.crem := by unfold State.takeInterrupt; rfl
@[simp] theorem State.takeInterrupt_cop (s : State) : (s.takeInterrupt).cop = s.cop := by unfold State.takeInterrupt; rfl
@[simp] theorem State.takeInterrupt_bus (s : State) : (s.takeInterrupt).bus = s.bus := by unfold State.takeInterrupt; rfl
@[simp] theorem State.takeInterrupt_iq (s : State) : (s.takeInterrupt).iq = s.iq := by unfold State.takeInterrupt; rfl
@[simp] theorem State.takeInterrupt_kdirty (s : State) : (s.takeInterrupt).kdirty = s.kdirty := by unfold State.takeInterrupt; rfl
@[simp] theorem State.takeInterrupt_vy (s : State) : (s.takeInterrupt).vy = s.vy := by unfold State.takeInterrupt; rfl
@[simp] theorem State.takeInterrupt_vx (s : State) : (s.takeInterrupt).vx = s.vx := by unfold State.takeInterrupt; rfl
@[simp] theorem State.takeInterrupt_vphase (s : State) : (s.takeInterrupt).vphase = s.vphase := by unfold State.takeInterrupt; rfl
@[simp] theorem State.takeInterrupt_vframe (s : State) : (s.takeInterrupt).vframe = s.vframe := by unfold State.takeInterrupt; rfl
@[simp] theorem State.takeInterrupt_vrem (s : State) : (s.takeInterrupt).vrem = s.vrem := by unfold State.takeInterrupt; rfl
@[simp] theorem State.takeInterrupt_fb (s : State) : (s.takeInterrupt).fb = s.fb := by unfold State.takeInterrupt; rfl
@[simp] theorem State.takeInterrupt_tick (s : State) : (s.takeInterrupt).tick = s.tick := by unfold State.takeInterrupt; rfl
@[simp] theorem State.takeInterrupt_paused (s : State) : (s.takeInterrupt).paused = s.paused := by unfold State.takeInterrupt; rfl
@[simp] theorem State.takeInterrupt_host (s : State) : (s.takeInterrupt).host = s.host := by unfold State.takeInterrupt; rfl
@[simp] theorem State.returnFromInterrupt_config (s : State) : (s.returnFromInterrupt).config = s.config := by unfold State.returnFromInterrupt State.jump; rfl
@[simp] theorem State.returnFromInterrupt_regs (s : State) : (s.returnFromInterrupt).regs = s.regs := by unfold State.returnFromInterrupt State.jump; rfl
@[simp] theorem State.returnFromInterrupt_pc (s : State) : (s.returnFromInterrupt).pc =
    (s.jump s.int).pc := rfl
@[simp] theorem State.returnFromInterrupt_mem (s : State) : (s.returnFromInterrupt).mem = s.mem := by unfold State.returnFromInterrupt State.jump; rfl
@[simp] theorem State.returnFromInterrupt_ret (s : State) : (s.returnFromInterrupt).ret = s.ret := by unfold State.returnFromInterrupt State.jump; rfl
@[simp] theorem State.returnFromInterrupt_int (s : State) : (s.returnFromInterrupt).int =
    0 := rfl
@[simp] theorem State.returnFromInterrupt_ilatch (s : State) : (s.returnFromInterrupt).ilatch = s.ilatch := by unfold State.returnFromInterrupt State.jump; rfl
@[simp] theorem State.returnFromInterrupt_crem (s : State) : (s.returnFromInterrupt).crem = s.crem := by unfold State.returnFromInterrupt State.jump; rfl
@[simp] theorem State.returnFromInterrupt_cop (s : State) : (s.returnFromInterrupt).cop = s.cop := by unfold State.returnFromInterrupt State.jump; rfl
@[simp] theorem State.returnFromInterrupt_bus (s : State) : (s.returnFromInterrupt).bus = s.bus := by unfold State.returnFromInterrupt State.jump; rfl
@[simp] theorem State.returnFromInterrupt_iq (s : State) : (s.returnFromInterrupt).iq = s.iq := by unfold State.returnFromInterrupt State.jump; rfl
@[simp] theorem State.returnFromInterrupt_kdirty (s : State) : (s.returnFromInterrupt).kdirty = s.kdirty := by unfold State.returnFromInterrupt State.jump; rfl
@[simp] theorem State.returnFromInterrupt_vy (s : State) : (s.returnFromInterrupt).vy = s.vy := by unfold State.returnFromInterrupt State.jump; rfl
@[simp] theorem State.returnFromInterrupt_vx (s : State) : (s.returnFromInterrupt).vx = s.vx := by unfold State.returnFromInterrupt State.jump; rfl
@[simp] theorem State.returnFromInterrupt_vphase (s : State) : (s.returnFromInterrupt).vphase = s.vphase := by unfold State.returnFromInterrupt State.jump; rfl
@[simp] theorem State.returnFromInterrupt_vframe (s : State) : (s.returnFromInterrupt).vframe = s.vframe := by unfold State.returnFromInterrupt State.jump; rfl
@[simp] theorem State.returnFromInterrupt_vrem (s : State) : (s.returnFromInterrupt).vrem = s.vrem := by unfold State.returnFromInterrupt State.jump; rfl
@[simp] theorem State.returnFromInterrupt_fb (s : State) : (s.returnFromInterrupt).fb = s.fb := by unfold State.returnFromInterrupt State.jump; rfl
@[simp] theorem State.returnFromInterrupt_tick (s : State) : (s.returnFromInterrupt).tick = s.tick := by unfold State.returnFromInterrupt State.jump; rfl
@[simp] theorem State.returnFromInterrupt_paused (s : State) : (s.returnFromInterrupt).paused = s.paused := by unfold State.returnFromInterrupt State.jump; rfl
@[simp] theorem State.returnFromInterrupt_host (s : State) : (s.returnFromInterrupt).host = s.host := by unfold State.returnFromInterrupt State.jump; rfl
@[simp] theorem State.returnFromCall_config (s : State) : (s.returnFromCall).config = s.config := by unfold State.returnFromCall State.jump; rfl
@[simp] theorem State.returnFromCall_regs (s : State) : (s.returnFromCall).regs = s.regs := by unfold State.returnFromCall State.jump; rfl
@[simp] theorem State.returnFromCall_pc (s : State) : (s.returnFromCall).pc =
    (s.jump s.ret).pc := rfl
@[simp] theorem State.returnFromCall_mem (s : State) : (s.returnFromCall).mem = s.mem := by unfold State.returnFromCall State.jump; rfl
@[simp] theorem State.returnFromCall_ret (s : State) : (s.returnFromCall).ret =
    0 := rfl
@[simp] theorem State.returnFromCall_int (s : State) : (s.returnFromCall).int = s.int := by unfold State.returnFromCall State.jump; rfl
@[simp] theorem State.returnFromCall_ilatch (s : State) : (s.returnFromCall).ilatch = s.ilatch := by unfold State.returnFromCall State.jump; rfl
@[simp] theorem State.returnFromCall_crem (s : State) : (s.returnFromCall).crem = s.crem := by unfold State.returnFromCall State.jump; rfl
@[simp] theorem State.returnFromCall_cop (s : State) : (s.returnFromCall).cop = s.cop := by unfold State.returnFromCall State.jump; rfl
@[simp] theorem State.returnFromCall_bus (s : State) : (s.returnFromCall).bus = s.bus := by unfold State.returnFromCall State.jump; rfl
@[simp] theorem State.returnFromCall_iq (s : State) : (s.returnFromCall).iq = s.iq := by unfold State.returnFromCall State.jump; rfl
@[simp] theorem State.returnFromCall_kdirty (s : State) : (s.returnFromCall).kdirty = s.kdirty := by unfold State.returnFromCall State.jump; rfl
@[simp] theorem State.returnFromCall_vy (s : State) : (s.returnFromCall).vy = s.vy := by unfold State.returnFromCall State.jump; rfl
@[simp] theorem State.returnFromCall_vx (s : State) : (s.returnFromCall).vx = s.vx := by unfold State.returnFromCall State.jump; rfl
@[simp] theorem State.returnFromCall_vphase (s : State) : (s.returnFromCall).vphase = s.vphase := by unfold State.returnFromCall State.jump; rfl
@[simp] theorem State.returnFromCall_vframe (s : State) : (s.returnFromCall).vframe = s.vframe := by unfold State.returnFromCall State.jump; rfl
@[simp] theorem State.returnFromCall_vrem (s : State) : (s.returnFromCall).vrem = s.vrem := by unfold State.returnFromCall State.jump; rfl
@[simp] theorem State.returnFromCall_fb (s : State) : (s.returnFromCall).fb = s.fb := by unfold State.returnFromCall State.jump; rfl
@[simp] theorem State.returnFromCall_tick (s : State) : (s.returnFromCall).tick = s.tick := by unfold State.returnFromCall State.jump; rfl
@[simp] theorem State.returnFromCall_paused (s : State) : (s.returnFromCall).paused = s.paused := by unfold State.returnFromCall State.jump; rfl
@[simp] theorem State.returnFromCall_host (s : State) : (s.returnFromCall).host = s.host := by unfold State.returnFromCall State.jump; rfl
@[simp] theorem State.callTo_config (s : State) (t : Addr) : (s.callTo t).config = s.config := by unfold State.callTo State.jump; rfl
@[simp] theorem State.callTo_regs (s : State) (t : Addr) : (s.callTo t).regs = s.regs := by unfold State.callTo State.jump; rfl
@[simp] theorem State.callTo_pc (s : State) (t : Addr) : (s.callTo t).pc =
    (s.jump t).pc := rfl
@[simp] theorem State.callTo_mem (s : State) (t : Addr) : (s.callTo t).mem = s.mem := by unfold State.callTo State.jump; rfl
@[simp] theorem State.callTo_ret (s : State) (t : Addr) : (s.callTo t).ret =
    wrap s.config (s.pc.toNat + 1) := rfl
@[simp] theorem State.callTo_int (s : State) (t : Addr) : (s.callTo t).int = s.int := by unfold State.callTo State.jump; rfl
@[simp] theorem State.callTo_ilatch (s : State) (t : Addr) : (s.callTo t).ilatch = s.ilatch := by unfold State.callTo State.jump; rfl
@[simp] theorem State.callTo_crem (s : State) (t : Addr) : (s.callTo t).crem = s.crem := by unfold State.callTo State.jump; rfl
@[simp] theorem State.callTo_cop (s : State) (t : Addr) : (s.callTo t).cop = s.cop := by unfold State.callTo State.jump; rfl
@[simp] theorem State.callTo_bus (s : State) (t : Addr) : (s.callTo t).bus = s.bus := by unfold State.callTo State.jump; rfl
@[simp] theorem State.callTo_iq (s : State) (t : Addr) : (s.callTo t).iq = s.iq := by unfold State.callTo State.jump; rfl
@[simp] theorem State.callTo_kdirty (s : State) (t : Addr) : (s.callTo t).kdirty = s.kdirty := by unfold State.callTo State.jump; rfl
@[simp] theorem State.callTo_vy (s : State) (t : Addr) : (s.callTo t).vy = s.vy := by unfold State.callTo State.jump; rfl
@[simp] theorem State.callTo_vx (s : State) (t : Addr) : (s.callTo t).vx = s.vx := by unfold State.callTo State.jump; rfl
@[simp] theorem State.callTo_vphase (s : State) (t : Addr) : (s.callTo t).vphase = s.vphase := by unfold State.callTo State.jump; rfl
@[simp] theorem State.callTo_vframe (s : State) (t : Addr) : (s.callTo t).vframe = s.vframe := by unfold State.callTo State.jump; rfl
@[simp] theorem State.callTo_vrem (s : State) (t : Addr) : (s.callTo t).vrem = s.vrem := by unfold State.callTo State.jump; rfl
@[simp] theorem State.callTo_fb (s : State) (t : Addr) : (s.callTo t).fb = s.fb := by unfold State.callTo State.jump; rfl
@[simp] theorem State.callTo_tick (s : State) (t : Addr) : (s.callTo t).tick = s.tick := by unfold State.callTo State.jump; rfl
@[simp] theorem State.callTo_paused (s : State) (t : Addr) : (s.callTo t).paused = s.paused := by unfold State.callTo State.jump; rfl
@[simp] theorem State.callTo_host (s : State) (t : Addr) : (s.callTo t).host = s.host := by unfold State.callTo State.jump; rfl
@[simp] theorem State.request_config (s : State) (v : Addr) : (s.request v).config = s.config := rfl
@[simp] theorem State.request_regs (s : State) (v : Addr) : (s.request v).regs = s.regs := rfl
@[simp] theorem State.request_pc (s : State) (v : Addr) : (s.request v).pc = s.pc := rfl
@[simp] theorem State.request_mem (s : State) (v : Addr) : (s.request v).mem = s.mem := rfl
@[simp] theorem State.request_ret (s : State) (v : Addr) : (s.request v).ret = s.ret := rfl
@[simp] theorem State.request_int (s : State) (v : Addr) : (s.request v).int = s.int := rfl
@[simp] theorem State.request_ilatch (s : State) (v : Addr) : (s.request v).ilatch = s.ilatch := rfl
@[simp] theorem State.request_crem (s : State) (v : Addr) : (s.request v).crem = s.crem := rfl
@[simp] theorem State.request_cop (s : State) (v : Addr) : (s.request v).cop = s.cop := rfl
@[simp] theorem State.request_bus (s : State) (v : Addr) : (s.request v).bus = s.bus := rfl
@[simp] theorem State.request_iq (s : State) (v : Addr) : (s.request v).iq =
    if v = 0 then s.iq else s.iq ++ [v] := rfl
@[simp] theorem State.request_kdirty (s : State) (v : Addr) : (s.request v).kdirty = s.kdirty := rfl
@[simp] theorem State.request_vy (s : State) (v : Addr) : (s.request v).vy = s.vy := rfl
@[simp] theorem State.request_vx (s : State) (v : Addr) : (s.request v).vx = s.vx := rfl
@[simp] theorem State.request_vphase (s : State) (v : Addr) : (s.request v).vphase = s.vphase := rfl
@[simp] theorem State.request_vframe (s : State) (v : Addr) : (s.request v).vframe = s.vframe := rfl
@[simp] theorem State.request_vrem (s : State) (v : Addr) : (s.request v).vrem = s.vrem := rfl
@[simp] theorem State.request_fb (s : State) (v : Addr) : (s.request v).fb = s.fb := rfl
@[simp] theorem State.request_tick (s : State) (v : Addr) : (s.request v).tick = s.tick := rfl
@[simp] theorem State.request_paused (s : State) (v : Addr) : (s.request v).paused = s.paused := rfl
@[simp] theorem State.request_host (s : State) (v : Addr) : (s.request v).host = s.host := rfl
@[simp] theorem State.setKey_config (s : State) (code : Byte) (isDown : Bool) : (s.setKey code isDown).config = s.config := by unfold State.setKey; rfl
@[simp] theorem State.setKey_regs (s : State) (code : Byte) (isDown : Bool) : (s.setKey code isDown).regs = s.regs := by unfold State.setKey; rfl
@[simp] theorem State.setKey_pc (s : State) (code : Byte) (isDown : Bool) : (s.setKey code isDown).pc = s.pc := by unfold State.setKey; rfl
@[simp] theorem State.setKey_mem (s : State) (code : Byte) (isDown : Bool) : (s.setKey code isDown).mem = s.mem := by unfold State.setKey; rfl
@[simp] theorem State.setKey_ret (s : State) (code : Byte) (isDown : Bool) : (s.setKey code isDown).ret = s.ret := by unfold State.setKey; rfl
@[simp] theorem State.setKey_int (s : State) (code : Byte) (isDown : Bool) : (s.setKey code isDown).int = s.int := by unfold State.setKey; rfl
@[simp] theorem State.setKey_ilatch (s : State) (code : Byte) (isDown : Bool) : (s.setKey code isDown).ilatch = s.ilatch := by unfold State.setKey; rfl
@[simp] theorem State.setKey_crem (s : State) (code : Byte) (isDown : Bool) : (s.setKey code isDown).crem = s.crem := by unfold State.setKey; rfl
@[simp] theorem State.setKey_cop (s : State) (code : Byte) (isDown : Bool) : (s.setKey code isDown).cop = s.cop := by unfold State.setKey; rfl
@[simp] theorem State.setKey_bus (s : State) (code : Byte) (isDown : Bool) : (s.setKey code isDown).bus =
    ((s.storeBytes (s.config.keyramBase + 8 + code.toNat) [if isDown then 255 else 0]).storeBytes
      (s.config.keyramBase + 2) [code]).bus := rfl
@[simp] theorem State.setKey_iq (s : State) (code : Byte) (isDown : Bool) : (s.setKey code isDown).iq = s.iq := by unfold State.setKey; rfl
@[simp] theorem State.setKey_kdirty (s : State) (code : Byte) (isDown : Bool) : (s.setKey code isDown).kdirty =
    true := rfl
@[simp] theorem State.setKey_vy (s : State) (code : Byte) (isDown : Bool) : (s.setKey code isDown).vy = s.vy := by unfold State.setKey; rfl
@[simp] theorem State.setKey_vx (s : State) (code : Byte) (isDown : Bool) : (s.setKey code isDown).vx = s.vx := by unfold State.setKey; rfl
@[simp] theorem State.setKey_vphase (s : State) (code : Byte) (isDown : Bool) : (s.setKey code isDown).vphase = s.vphase := by unfold State.setKey; rfl
@[simp] theorem State.setKey_vframe (s : State) (code : Byte) (isDown : Bool) : (s.setKey code isDown).vframe = s.vframe := by unfold State.setKey; rfl
@[simp] theorem State.setKey_vrem (s : State) (code : Byte) (isDown : Bool) : (s.setKey code isDown).vrem = s.vrem := by unfold State.setKey; rfl
@[simp] theorem State.setKey_fb (s : State) (code : Byte) (isDown : Bool) : (s.setKey code isDown).fb = s.fb := by unfold State.setKey; rfl
@[simp] theorem State.setKey_tick (s : State) (code : Byte) (isDown : Bool) : (s.setKey code isDown).tick = s.tick := by unfold State.setKey; rfl
@[simp] theorem State.setKey_paused (s : State) (code : Byte) (isDown : Bool) : (s.setKey code isDown).paused = s.paused := by unfold State.setKey; rfl
@[simp] theorem State.setKey_host (s : State) (code : Byte) (isDown : Bool) : (s.setKey code isDown).host = s.host := by unfold State.setKey; rfl
@[simp] theorem State.cpuReset_config (s : State) : (s.cpuReset).config = s.config := rfl
@[simp] theorem State.cpuReset_regs (s : State) : (s.cpuReset).regs =
    Vector.replicate 16 0 := rfl
@[simp] theorem State.cpuReset_pc (s : State) : (s.cpuReset).pc =
    0 := rfl
@[simp] theorem State.cpuReset_mem (s : State) : (s.cpuReset).mem =
    0 := rfl
@[simp] theorem State.cpuReset_ret (s : State) : (s.cpuReset).ret =
    0 := rfl
@[simp] theorem State.cpuReset_int (s : State) : (s.cpuReset).int =
    0 := rfl
@[simp] theorem State.cpuReset_ilatch (s : State) : (s.cpuReset).ilatch =
    0 := rfl
@[simp] theorem State.cpuReset_crem (s : State) : (s.cpuReset).crem =
    0 := rfl
@[simp] theorem State.cpuReset_cop (s : State) : (s.cpuReset).cop = s.cop := rfl
@[simp] theorem State.cpuReset_bus (s : State) : (s.cpuReset).bus = s.bus := rfl
@[simp] theorem State.cpuReset_iq (s : State) : (s.cpuReset).iq = s.iq := rfl
@[simp] theorem State.cpuReset_kdirty (s : State) : (s.cpuReset).kdirty = s.kdirty := rfl
@[simp] theorem State.cpuReset_vy (s : State) : (s.cpuReset).vy = s.vy := rfl
@[simp] theorem State.cpuReset_vx (s : State) : (s.cpuReset).vx = s.vx := rfl
@[simp] theorem State.cpuReset_vphase (s : State) : (s.cpuReset).vphase = s.vphase := rfl
@[simp] theorem State.cpuReset_vframe (s : State) : (s.cpuReset).vframe = s.vframe := rfl
@[simp] theorem State.cpuReset_vrem (s : State) : (s.cpuReset).vrem = s.vrem := rfl
@[simp] theorem State.cpuReset_fb (s : State) : (s.cpuReset).fb = s.fb := rfl
@[simp] theorem State.cpuReset_tick (s : State) : (s.cpuReset).tick = s.tick := rfl
@[simp] theorem State.cpuReset_paused (s : State) : (s.cpuReset).paused = s.paused := rfl
@[simp] theorem State.cpuReset_host (s : State) : (s.cpuReset).host = s.host := rfl
@[simp] theorem keyboardCycle_config (s : State) : (keyboardCycle s).config = s.config := by unfold keyboardCycle; rfl
@[simp] theorem keyboardCycle_regs (s : State) : (keyboardCycle s).regs = s.regs := by unfold keyboardCycle; rfl
@[simp] theorem keyboardCycle_pc (s : State) : (keyboardCycle s).pc = s.pc := by unfold keyboardCycle; rfl
@[simp] theorem keyboardCycle_mem (s : State) : (keyboardCycle s).mem = s.mem := by unfold keyboardCycle; rfl
@[simp] theorem keyboardCycle_ret (s : State) : (keyboardCycle s).ret = s.ret := by unfold keyboardCycle; rfl
@[simp] theorem keyboardCycle_int (s : State) : (keyboardCycle s).int = s.int := by unfold keyboardCycle; rfl
@[simp] theorem keyboardCycle_ilatch (s : State) : (keyboardCycle s).ilatch = s.ilatch := by unfold keyboardCycle; rfl
@[simp] theorem keyboardCycle_crem (s : State) : (keyboardCycle s).crem = s.crem := by unfold keyboardCycle; rfl
@[simp] theorem keyboardCycle_cop (s : State) : (keyboardCycle s).cop = s.cop := by unfold keyboardCycle; rfl
@[simp] theorem keyboardCycle_bus (s : State) : (keyboardCycle s).bus = s.bus := by unfold keyboardCycle; rfl
@[simp] theorem keyboardCycle_iq (s : State) : (keyboardCycle s).iq =
    if s.kdirty then (s.request (s.vector s.config.keyramBase)).iq else s.iq := rfl
@[simp] theorem keyboardCycle_kdirty (s : State) : (keyboardCycle s).kdirty =
    false := rfl
@[simp] theorem keyboardCycle_vy (s : State) : (keyboardCycle s).vy = s.vy := by unfold keyboardCycle; rfl
@[simp] theorem keyboardCycle_vx (s : State) : (keyboardCycle s).vx = s.vx := by unfold keyboardCycle; rfl
@[simp] theorem keyboardCycle_vphase (s : State) : (keyboardCycle s).vphase = s.vphase := by unfold keyboardCycle; rfl
@[simp] theorem keyboardCycle_vframe (s : State) : (keyboardCycle s).vframe = s.vframe := by unfold keyboardCycle; rfl
@[simp] theorem keyboardCycle_vrem (s : State) : (keyboardCycle s).vrem = s.vrem := by unfold keyboardCycle; rfl
@[simp] theorem keyboardCycle_fb (s : State) : (keyboardCycle s).fb = s.fb := by unfold keyboardCycle; rfl
@[simp] theorem keyboardCycle_tick (s : State) : (keyboardCycle s).tick = s.tick := by unfold keyboardCycle; rfl
@[simp] theorem keyboardCycle_paused (s : State) : (keyboardCycle s).paused = s.paused := by unfold keyboardCycle; rfl
@[simp] theorem keyboardCycle_host (s : State) : (keyboardCycle s).host = s.host := by unfold keyboardCycle; rfl
@[simp] theorem pixelUnit_config (v : VideoParams) (s : State) : (pixelUnit v s).config = s.config := by unfold pixelUnit; rfl
@[simp] theorem pixelUnit_regs (v : VideoParams) (s : State) : (pixelUnit v s).regs = s.regs := by unfold pixelUnit; rfl
@[simp] theorem pixelUnit_pc (v : VideoParams) (s : State) : (pixelUnit v s).pc = s.pc := by unfold pixelUnit; rfl
@[simp] theorem pixelUnit_mem (v : VideoParams) (s : State) : (pixelUnit v s).mem = s.mem := by unfold pixelUnit; rfl
@[simp] theorem pixelUnit_ret (v : VideoParams) (s : State) : (pixelUnit v s).ret = s.ret := by unfold pixelUnit; rfl
@[simp] theorem pixelUnit_int (v : VideoParams) (s : State) : (pixelUnit v s).int = s.int := by unfold pixelUnit; rfl
@[simp] theorem pixelUnit_ilatch (v : VideoParams) (s : State) : (pixelUnit v s).ilatch = s.ilatch := by unfold pixelUnit; rfl
@[simp] theorem pixelUnit_crem (v : VideoParams) (s : State) : (pixelUnit v s).crem = s.crem := by unfold pixelUnit; rfl
@[simp] theorem pixelUnit_cop (v : VideoParams) (s : State) : (pixelUnit v s).cop = s.cop := by unfold pixelUnit; rfl
@[simp] theorem pixelUnit_bus (v : VideoParams) (s : State) : (pixelUnit v s).bus = s.bus := by unfold pixelUnit; rfl
@[simp] theorem pixelUnit_iq (v : VideoParams) (s : State) : (pixelUnit v s).iq = s.iq := by unfold pixelUnit; rfl
@[simp] theorem pixelUnit_kdirty (v : VideoParams) (s : State) : (pixelUnit v s).kdirty = s.kdirty := by unfold pixelUnit; rfl
@[simp] theorem pixelUnit_vy (v : VideoParams) (s : State) : (pixelUnit v s).vy = s.vy := by unfold pixelUnit; rfl
@[simp] theorem pixelUnit_vx (v : VideoParams) (s : State) : (pixelUnit v s).vx =
    if s.vx + 1 = v.displayW then 0 else s.vx + 1 := rfl
@[simp] theorem pixelUnit_vphase (v : VideoParams) (s : State) : (pixelUnit v s).vphase =
    if s.vx + 1 = v.displayW then .hblank else .pixel := rfl
@[simp] theorem pixelUnit_vframe (v : VideoParams) (s : State) : (pixelUnit v s).vframe = s.vframe := by unfold pixelUnit; rfl
@[simp] theorem pixelUnit_vrem (v : VideoParams) (s : State) : (pixelUnit v s).vrem =
    2 := rfl
@[simp] theorem pixelUnit_fb (v : VideoParams) (s : State) : (pixelUnit v s).fb =
    Memory.store (fun _ => 0) (frameBytes v) s.fb ((s.vy * v.displayW + s.vx) * 4) (pixelRGBA v s s.vx s.vy) := rfl
@[simp] theorem pixelUnit_tick (v : VideoParams) (s : State) : (pixelUnit v s).tick = s.tick := by unfold pixelUnit; rfl
@[simp] theorem pixelUnit_paused (v : VideoParams) (s : State) : (pixelUnit v s).paused = s.paused := by unfold pixelUnit; rfl
@[simp] theorem pixelUnit_host (v : VideoParams) (s : State) : (pixelUnit v s).host = s.host := by unfold pixelUnit; rfl
@[simp] theorem hblankUnit_config (v : VideoParams) (s : State) : (hblankUnit v s).config = s.config := by unfold hblankUnit; rfl
@[simp] theorem hblankUnit_regs (v : VideoParams) (s : State) : (hblankUnit v s).regs = s.regs := by unfold hblankUnit; rfl
@[simp] theorem hblankUnit_pc (v : VideoParams) (s : State) : (hblankUnit v s).pc = s.pc := by unfold hblankUnit; rfl
@[simp] theorem hblankUnit_mem (v : VideoParams) (s : State) : (hblankUnit v s).mem = s.mem := by unfold hblankUnit; rfl
@[simp] theorem hblankUnit_ret (v : VideoParams) (s : State) : (hblankUnit v s).ret = s.ret := by unfold hblankUnit; rfl
@[simp] theorem hblankUnit_int (v : VideoParams) (s : State) : (hblankUnit v s).int = s.int := by unfold hblankUnit; rfl
@[simp] theorem hblankUnit_ilatch (v : VideoParams) (s : State) : (hblankUnit v s).ilatch = s.ilatch := by unfold hblankUnit; rfl
@[simp] theorem hblankUnit_crem (v : VideoParams) (s : State) : (hblankUnit v s).crem = s.crem := by unfold hblankUnit; rfl
@[simp] theorem hblankUnit_cop (v : VideoParams) (s : State) : (hblankUnit v s).cop = s.cop := by unfold hblankUnit; rfl
@[simp] theorem hblankUnit_bus (v : VideoParams) (s : State) : (hblankUnit v s).bus = s.bus := by unfold hblankUnit; rfl
@[simp] theorem hblankUnit_iq (v : VideoParams) (s : State) : (hblankUnit v s).iq =
    (s.request (s.vector (s.config.vramBase + 10))).iq := rfl
@[simp] theorem hblankUnit_kdirty (v : VideoParams) (s : State) : (hblankUnit v s).kdirty = s.kdirty := by unfold hblankUnit; rfl
@[simp] theorem hblankUnit_vy (v : VideoParams) (s : State) : (hblankUnit v s).vy =
    if s.vy + 1 = v.displayH then 0 else s.vy + 1 := rfl
@[simp] theorem hblankUnit_vx (v : VideoParams) (s : State) : (hblankUnit v s).vx = s.vx := by unfold hblankUnit; rfl
@[simp] theorem hblankUnit_vphase (v : VideoParams) (s : State) : (hblankUnit v s).vphase =
    if s.vy + 1 = v.displayH then .vblank else .pixel := rfl
@[simp] theorem hblankUnit_vframe (v : VideoParams) (s : State) : (hblankUnit v s).vframe = s.vframe := by unfold hblankUnit; rfl
@[simp] theorem hblankUnit_vrem (v : VideoParams) (s : State) : (hblankUnit v s).vrem =
    12 := rfl
@[simp] theorem hblankUnit_fb (v : VideoParams) (s : State) : (hblankUnit v s).fb = s.fb := by unfold hblankUnit; rfl
@[simp] theorem hblankUnit_tick (v : VideoParams) (s : State) : (hblankUnit v s).tick = s.tick := by unfold hblankUnit; rfl
@[simp] theorem hblankUnit_paused (v : VideoParams) (s : State) : (hblankUnit v s).paused = s.paused := by unfold hblankUnit; rfl
@[simp] theorem hblankUnit_host (v : VideoParams) (s : State) : (hblankUnit v s).host = s.host := by unfold hblankUnit; rfl
@[simp] theorem vblankUnit_config (v : VideoParams) (s : State) : (vblankUnit v s).config = s.config := by unfold vblankUnit; rfl
@[simp] theorem vblankUnit_regs (v : VideoParams) (s : State) : (vblankUnit v s).regs = s.regs := by unfold vblankUnit; rfl
@[simp] theorem vblankUnit_pc (v : VideoParams) (s : State) : (vblankUnit v s).pc = s.pc := by unfold vblankUnit; rfl
@[simp] theorem vblankUnit_mem (v : VideoParams) (s : State) : (vblankUnit v s).mem = s.mem := by unfold vblankUnit; rfl
@[simp] theorem vblankUnit_ret (v : VideoParams) (s : State) : (vblankUnit v s).ret = s.ret := by unfold vblankUnit; rfl
@[simp] theorem vblankUnit_int (v : VideoParams) (s : State) : (vblankUnit v s).int = s.int := by unfold vblankUnit; rfl
@[simp] theorem vblankUnit_ilatch (v : VideoParams) (s : State) : (vblankUnit v s).ilatch = s.ilatch := by unfold vblankUnit; rfl
@[simp] theorem vblankUnit_crem (v : VideoParams) (s : State) : (vblankUnit v s).crem = s.crem := by unfold vblankUnit; rfl
@[simp] theorem vblankUnit_cop (v : VideoParams) (s : State) : (vblankUnit v s).cop = s.cop := by unfold vblankUnit; rfl
@[simp] theorem vblankUnit_bus (v : VideoParams) (s : State) : (vblankUnit v s).bus = s.bus := by unfold vblankUnit; rfl
@[simp] theorem vblankUnit_iq (v : VideoParams) (s : State) : (vblankUnit v s).iq =
    (s.request (s.vector (s.config.vramBase + 12))).iq := rfl
@[simp] theorem vblankUnit_kdirty (v : VideoParams) (s : State) : (vblankUnit v s).kdirty = s.kdirty := by unfold vblankUnit; rfl
@[simp] theorem vblankUnit_vy (v : VideoParams) (s : State) : (vblankUnit v s).vy = s.vy := by unfold vblankUnit; rfl
@[simp] theorem vblankUnit_vx (v : VideoParams) (s : State) : (vblankUnit v s).vx = s.vx := by unfold vblankUnit; rfl
@[simp] theorem vblankUnit_vphase (v : VideoParams) (s : State) : (vblankUnit v s).vphase =
    if s.vframe + 1 = 30 then .sync else .pixel := rfl
@[simp] theorem vblankUnit_vframe (v : VideoParams) (s : State) : (vblankUnit v s).vframe =
    if s.vframe + 1 = 30 then 0 else s.vframe + 1 := rfl
@[simp] theorem vblankUnit_vrem (v : VideoParams) (s : State) : (vblankUnit v s).vrem =
    cyclesPerVblank v := rfl
@[simp] theorem vblankUnit_fb (v : VideoParams) (s : State) : (vblankUnit v s).fb = s.fb := by unfold vblankUnit; rfl
@[simp] theorem vblankUnit_tick (v : VideoParams) (s : State) : (vblankUnit v s).tick = s.tick := by unfold vblankUnit; rfl
@[simp] theorem vblankUnit_paused (v : VideoParams) (s : State) : (vblankUnit v s).paused = s.paused := by unfold vblankUnit; rfl
@[simp] theorem vblankUnit_host (v : VideoParams) (s : State) : (vblankUnit v s).host = s.host := by unfold vblankUnit; rfl
@[simp] theorem syncUnit_config (v : VideoParams) (s : State) : (syncUnit v s).config = s.config := by unfold syncUnit; rfl
@[simp] theorem syncUnit_regs (v : VideoParams) (s : State) : (syncUnit v s).regs = s.regs := by unfold syncUnit; rfl
@[simp] theorem syncUnit_pc (v : VideoParams) (s : State) : (syncUnit v s).pc = s.pc := by unfold syncUnit; rfl
@[simp] theorem syncUnit_mem (v : VideoParams) (s : State) : (syncUnit v s).mem = s.mem := by unfold syncUnit; rfl
@[simp] theorem syncUnit_ret (v : VideoParams) (s : State) : (syncUnit v s).ret = s.ret := by unfold syncUnit; rfl
@[simp] theorem syncUnit_int (v : VideoParams) (s : State) : (syncUnit v s).int = s.int := by unfold syncUnit; rfl
@[simp] theorem syncUnit_ilatch (v : VideoParams) (s : State) : (syncUnit v s).ilatch = s.ilatch := by unfold syncUnit; rfl
@[simp] theorem syncUnit_crem (v : VideoParams) (s : State) : (syncUnit v s).crem = s.crem := by unfold syncUnit; rfl
@[simp] theorem syncUnit_cop (v : VideoParams) (s : State) : (syncUnit v s).cop = s.cop := by unfold syncUnit; rfl
@[simp] theorem syncUnit_bus (v : VideoParams) (s : State) : (syncUnit v s).bus = s.bus := by unfold syncUnit; rfl
@[simp] theorem syncUnit_iq (v : VideoParams) (s : State) : (syncUnit v s).iq =
    (s.request (s.vector (s.config.vramBase + 8))).iq := rfl
@[simp] theorem syncUnit_kdirty (v : VideoParams) (s : State) : (syncUnit v s).kdirty = s.kdirty := by unfold syncUnit; rfl
@[simp] theorem syncUnit_vy (v : VideoParams) (s : State) : (syncUnit v s).vy = s.vy := by unfold syncUnit; rfl
@[simp] theorem syncUnit_vx (v : VideoParams) (s : State) : (syncUnit v s).vx = s.vx := by unfold syncUnit; rfl
@[simp] theorem syncUnit_vphase (v : VideoParams) (s : State) : (syncUnit v s).vphase =
    .pixel := rfl
@[simp] theorem syncUnit_vframe (v : VideoParams) (s : State) : (syncUnit v s).vframe = s.vframe := by unfold syncUnit; rfl
@[simp] theorem syncUnit_vrem (v : VideoParams) (s : State) : (syncUnit v s).vrem =
    cyclesPerSync v := rfl
@[simp] theorem syncUnit_fb (v : VideoParams) (s : State) : (syncUnit v s).fb = s.fb := by unfold syncUnit; rfl
@[simp] theorem syncUnit_tick (v : VideoParams) (s : State) : (syncUnit v s).tick = s.tick := by unfold syncUnit; rfl
@[simp] theorem syncUnit_paused (v : VideoParams) (s : State) : (syncUnit v s).paused = s.paused := by unfold syncUnit; rfl
@[simp] theorem syncUnit_host (v : VideoParams) (s : State) : (syncUnit v s).host = s.host := by unfold syncUnit; rfl

@[simp] theorem finishCycle_tick (v : VideoParams) (p : Bool) (s : State) : (finishCycle v p s).tick = s.tick + 1 := rfl

end Sys2Proof.Machine
end

