-- ==== Sys2Proof/Laws/Registers.lean ====
section
/-! SUPPORT. The register file, the program counter and the operands: what each shared operation over them can do. -/

namespace Sys2Proof.Machine

open Sys2Proof.Safety

/-! ### The program counter -/

theorem wrap_toNat (c : Configuration) (a : Nat) : (wrap c a).toNat = a % c.cap := by
  have h := Configuration.cap_bounds c
  have := Nat.mod_lt a (show 0 < c.cap by omega)
  simp only [wrap, BitVec.toNat_ofNat]
  exact Nat.mod_eq_of_lt (by omega)

theorem wrap_lt (c : Configuration) (a : Nat) : (wrap c a).toNat < c.cap := by
  have h := Configuration.cap_bounds c
  rw [wrap_toNat]; exact Nat.mod_lt a (by omega)

theorem wrap_eq_trunc (c : Configuration) (a : Nat) : wrap c a = trunc 16 ((a % c.cap : Nat) : Int) := by
  unfold wrap trunc
  rw [BitVec.ofInt_natCast]

theorem State.readArgs_toNat (s : State) (k : Nat) : (s.readArgs k).pc.toNat = (s.pc.toNat + k) % s.config.cap := by
  rw [State.readArgs_pc, wrap_toNat]

theorem State.nextOpcode_toNat (s : State) : s.nextOpcode.pc.toNat = (s.pc.toNat + 1) % s.config.cap := by
  rw [State.nextOpcode_pc, wrap_toNat]

/-- `jump(t)`, and then the loop's own increment: the next opcode is fetched at `t mod CAP` (R115). -/
theorem State.jump_nextOpcode (s : State) (t : Addr) : (s.jump t).nextOpcode.pc.toNat = t.toNat % s.config.cap := by
  have h := Configuration.cap_bounds s.config
  rw [State.nextOpcode_toNat, State.jump_pc, wrap_toNat, State.jump_config, Nat.mod_add_mod,
    show t.toNat + s.config.cap - 1 + 1 = t.toNat + s.config.cap by omega, Nat.add_mod_right]

/-- Consuming the arguments and stepping to the next opcode (R113). -/
theorem State.readArgs_nextOpcode (s : State) (k : Nat) :
    (s.readArgs k).nextOpcode.pc.toNat = (s.pc.toNat + (k + 1)) % s.config.cap := by
  rw [State.nextOpcode_toNat, State.readArgs_toNat, State.readArgs_config, Nat.mod_add_mod, Nat.add_assoc]

/-! ### The register file -/

theorem reg_eq (s : State) (n : Nat) : s.reg n = s.regs[n]?.getD 0 := rfl

theorem putRegs_get : ∀ (bs : List Byte) (rs : Vector Byte 16) (n m : Nat), m < 16 →
    (putRegs rs n bs)[m]?.getD 0 = if n ≤ m ∧ m < n + bs.length then bs[m - n]?.getD 0 else rs[m]?.getD 0
  | [], rs, n, m, _ => by
    have : ¬(n ≤ m ∧ m < n + ([] : List Byte).length) := by simp only [List.length_nil]; omega
    rw [if_neg this]; rfl
  | b :: bs, rs, n, m, hm => by
    rw [putRegs, putRegs_get bs _ (n + 1) m hm]
    simp only [List.length_cons]
    by_cases h1 : n + 1 ≤ m ∧ m < n + 1 + bs.length
    · rw [if_pos h1, if_pos (by omega), show m - n = (m - (n + 1)) + 1 by omega, List.getElem?_cons_succ]
    · rw [if_neg h1]
      by_cases h2 : m = n
      · subst h2
        rw [if_pos (by omega)]
        simp [hm]
      · rw [if_neg (by omega)]
        congr 1
        rw [Vector.getElem?_setIfInBounds]
        simp [Ne.symm h2]

/-- Everything `gwrite` can do to a register. -/
theorem State.reg_gwrite (s : State) (n : Nat) (w : Width) (v : BitVec w.bits) (m : Nat) (hm : m < 16) :
    (s.gwrite n w v).reg m = if n ≤ m ∧ m < n + w.bytes then v.extractLsb' (8 * (m - n)) 8 else s.reg m := by
  rw [reg_eq, State.gwrite_regs, putRegs_get _ _ _ _ hm, leBytes_length]
  by_cases h : n ≤ m ∧ m < n + w.bytes
  · rw [if_pos h, if_pos h, leBytes_getElem _ _ _ (by omega), byte_of_value]
  · rw [if_neg h, if_neg h]; rfl

/-- A view reads as it was written. -/
theorem State.gread_gwrite (s : State) (n : Nat) (w : Width) (v : BitVec w.bits) (h : n + w.bytes ≤ 16) :
    (s.gwrite n w v).gread n w = v := by
  have key : ((List.range w.bytes).map fun i => (s.gwrite n w v).reg (n + i)) = leBytes w.bytes v.toNat := by
    apply List.ext_getElem?
    intro i
    by_cases hi : i < w.bytes
    · have e := leBytes_getElem w.bytes v.toNat i hi
      have l := leBytes_length w.bytes v.toNat
      rw [List.getElem?_eq_getElem (by omega)] at e
      rw [List.getElem?_eq_getElem (by simpa using hi), List.getElem?_eq_getElem (by omega)]
      simp only [Option.getD_some] at e
      simp only [List.getElem_map, List.getElem_range, e]
      rw [State.reg_gwrite s n w v (n + i) (by omega), if_pos (by omega), byte_of_value, show n + i - n = i by omega]
    · rw [List.getElem?_eq_none (by simpa using hi), List.getElem?_eq_none (by rw [leBytes_length]; omega)]
  unfold State.gread
  rw [key, ofNat_leNat_leBytes]

/-- Byte `i` of a view is the register it covers. -/
theorem State.byte_gread (s : State) (n : Nat) (w : Width) (i : Nat) (hi : i < w.bytes) :
    (s.gread n w).extractLsb' (8 * i) 8 = s.reg (n + i) := by
  unfold State.gread
  rw [byte_of_leNat w _ (by simp) i hi]
  simp [hi]

/-- A scalar read gives the bytes of memory. -/
theorem State.byte_memRead (s : State) (a : Nat) (w : Width) (i : Nat) (hi : i < w.bytes) :
    (s.memRead a w).extractLsb' (8 * i) 8 = s.byteAt (a + i) := by
  unfold State.memRead State.bytesAt
  rw [byte_of_leNat w _ (by simp) i hi]
  simp [hi]

/-! ### Operands -/

theorem gbase_gen (r : Fin 16) (w : Width) : gbase (.gen r) w = if r.val % w.bytes = 0 then some r.val else none := rfl

theorem gbase_some (o : Operand) (w : Width) (n : Nat) :
    gbase o w = some n ↔ ∃ r : Fin 16, o = .gen r ∧ r.val = n ∧ n % w.bytes = 0 := by
  cases o with
  | gen r =>
    rw [gbase_gen]
    constructor
    · intro h
      split at h
      · rename_i hr
        cases h
        exact ⟨r, rfl, rfl, hr⟩
      · cases h
    · rintro ⟨r', hr, rfl, hm⟩
      cases hr
      rw [if_pos hm]
  | _ => constructor <;> intro h <;> simp [gbase] at h

/-- A legal base keeps the whole view inside the register file (R91). -/
theorem gbase_le (o : Operand) (w : Width) (n : Nat) (h : gbase o w = some n) : n + w.bytes ≤ 16 := by
  obtain ⟨r, _, rfl, hm⟩ := (gbase_some o w n).1 h
  have := r.isLt
  cases w <;> simp only [Width.bytes] at hm ⊢ <;> omega

theorem State.srcVal_nil (s : State) (w : Width) : s.srcVal .nil w = some 0 := rfl

theorem State.srcVal_of_ne_nil (s : State) (o : Operand) (w : Width) (h : o ≠ .nil) :
    s.srcVal o w = (gbase o w).map fun n => s.gread n w := by
  cases o <;> first | rfl | exact absurd rfl h

theorem State.srcVal_of_gbase (s : State) (o : Operand) (w : Width) (n : Nat) (h : gbase o w = some n) :
    s.srcVal o w = some (s.gread n w) := by
  obtain ⟨r, rfl, _⟩ := (gbase_some o w n).1 h
  rw [State.srcVal_of_ne_nil s _ w (by simp), h]; rfl

/-- Whether a source is valid does not depend on the state (R92). -/
theorem State.srcVal_isSome (s : State) (o : Operand) (w : Width) : (s.srcVal o w).isSome = sourceOK o w := by
  cases o with
  | gen r => simp only [State.srcVal, sourceOK, gbase]; split <;> simp
  | _ => simp [State.srcVal, sourceOK, gbase]

theorem State.srcVal_readArgs (s : State) (k : Nat) (o : Operand) (w : Width) :
    (s.readArgs k).srcVal o w = s.srcVal o w := by
  cases o <;> simp [State.srcVal, State.gread, State.reg]

theorem State.gread_readArgs (s : State) (k n : Nat) (w : Width) : (s.readArgs k).gread n w = s.gread n w := by
  simp [State.gread, State.reg]

theorem State.reg_readArgs (s : State) (k n : Nat) : (s.readArgs k).reg n = s.reg n := by simp [State.reg]

theorem State.byteAt_readArgs (s : State) (k a : Nat) : (s.readArgs k).byteAt a = s.byteAt a := by simp [State.byteAt]

theorem State.memRead_readArgs (s : State) (k a : Nat) (w : Width) : (s.readArgs k).memRead a w = s.memRead a w := by
  simp [State.memRead, State.bytesAt, State.byteAt]

/-! ### Frames -/

theorem SameRegs.refl (s : State) : SameRegs s s := fun _ _ => rfl

theorem SameMemory.refl (s : State) : SameMemory s s := fun _ => rfl

theorem SameSpecials.refl (s : State) : SameSpecials s s := ⟨rfl, rfl, rfl⟩

theorem SameHidden.refl (s : State) : SameHidden s s :=
  ⟨rfl, rfl, rfl, rfl, rfl, rfl, rfl, rfl, rfl, rfl, rfl, rfl, rfl, rfl, rfl⟩

/-- The bytes of memory are those of the bus, so equal buses of one configuration have equal bytes. -/
theorem SameMemory.of_bus {s t : State} (h : t.bus = s.bus) (hc : t.config = s.config := by first | rfl | simp) :
    SameMemory s t := fun a => by simp [State.byteAt, h, hc]

theorem SameRegs.of_regs {s t : State} (h : t.regs = s.regs) : SameRegs s t := fun a _ => by simp [State.reg, h]

theorem SameHidden.readArgs (s : State) (k : Nat) : SameHidden s (s.readArgs k) := by
  refine ⟨?_, ?_, ?_, ?_, ?_, ?_, ?_, ?_, ?_, ?_, ?_, ?_, ?_, ?_, ?_⟩ <;> simp

/-! ### Writing a result -/

theorem State.putResult_of_some (s : State) (d : Operand) (w : Width) (n : Nat) (v : BitVec w.bits)
    (h : gbase d w = some n) : s.putResult d w (some v) = s.gwrite n w v := by
  simp [State.putResult, h]

theorem State.putResult_of_none (s : State) (d : Operand) (w : Width) : s.putResult d w none = s := by
  unfold State.putResult
  split <;> simp_all

theorem State.putResult_of_invalid (s : State) (d : Operand) (w : Width) (v : Option (BitVec w.bits))
    (h : gbase d w = none) : s.putResult d w v = s := by
  simp [State.putResult, h]

/-- Everything an instruction that writes one result can do: consume `k` argument bytes, and write the target when the
target and the value are valid. -/
theorem wrote_putResult (s : State) (k : Nat) (d : Operand) (w : Width) (v : Option (BitVec w.bits)) :
    Wrote s ((s.readArgs k).putResult d w v) k d w v := by
  cases hd : gbase d w with
  | none =>
    rw [State.putResult_of_invalid _ _ _ _ hd]
    exact ⟨fun n x h => by simp [hd] at h, fun m _ _ => s.reg_readArgs k m, fun _ m _ => s.reg_readArgs k m, s.readArgs_toNat k,
      SameMemory.of_bus (by simp), by simp [SameSpecials], SameHidden.readArgs s k⟩
  | some n =>
    cases v with
    | none =>
      rw [State.putResult_of_none]
      exact ⟨fun n x _ h => (by simp at h), fun m _ _ => s.reg_readArgs k m, fun _ m _ => s.reg_readArgs k m, s.readArgs_toNat k,
        SameMemory.of_bus (by simp), by simp [SameSpecials], SameHidden.readArgs s k⟩
    | some x =>
      rw [State.putResult_of_some _ _ _ n _ hd]
      refine ⟨?_, ?_, ?_, ?_, SameMemory.of_bus (by simp), by simp [SameSpecials], by simp [SameHidden]⟩
      · intro n' x' h h'
        rw [hd] at h
        cases h; cases h'
        exact State.gread_gwrite _ n w x (gbase_le d w n hd)
      · intro m hm hc
        rw [State.reg_gwrite _ _ _ _ _ hm, if_neg fun h => hc ⟨n, hd, h⟩, State.reg_readArgs]
      · intro h; cases h
      · rw [AfterArgs, State.gwrite_pc, State.readArgs_toNat]

end Sys2Proof.Machine
end

