-- ==== Sys2Proof/Laws/Operations.lean ====
section
/-! SUPPORT. What each operation that several instructions share can do, said once for all of them. -/

namespace Sys2Proof.Machine

open Sys2Proof.Safety

/-! ### Bitwise, arithmetic, moves, loads -/

theorem bitwiseReg_eq (f : Byte → Byte → Byte) (ra rb : Operand) (s : State) :
    bitwiseReg f ra rb s = (s.readArgs 2).putResult ra .w8 (both f (s.srcVal ra .w8) (s.srcVal rb .w8)) := by
  unfold bitwiseReg
  rw [State.srcVal_readArgs]
  cases ha : gbase ra .w8 with
  | none => rw [State.putResult_of_invalid _ _ _ _ ha]
  | some n =>
    rw [State.srcVal_of_gbase s ra .w8 n ha]
    cases hb : s.srcVal rb .w8 with
    | none => rw [show both f (some (s.gread n .w8)) none = none from rfl, State.putResult_of_none]
    | some b =>
      rw [show both f (some (s.gread n .w8)) (some b) = some (f (s.gread n .w8) b) from rfl,
        State.putResult_of_some _ _ _ n _ ha]
      simp only [State.gread_readArgs]

/-- Everything a bitwise register form can do (R130). -/
theorem wrote_bitwiseReg (f : Byte → Byte → Byte) (ra rb : Operand) (s : State) :
    Wrote s (bitwiseReg f ra rb s) 2 ra .w8 (both f (s.srcVal ra .w8) (s.srcVal rb .w8)) := by
  rw [bitwiseReg_eq]; exact wrote_putResult s 2 ra .w8 _

theorem bitwiseOne_eq (k : Nat) (f : Byte → Byte) (ra : Operand) (s : State) :
    bitwiseOne k f ra s = (s.readArgs k).putResult ra .w8 (one f (s.srcVal ra .w8)) := by
  unfold bitwiseOne
  cases ha : gbase ra .w8 with
  | none => rw [State.putResult_of_invalid _ _ _ _ ha]
  | some n =>
    rw [State.srcVal_of_gbase s ra .w8 n ha,
      show one f (some (s.gread n .w8)) = some (f (s.gread n .w8)) from rfl, State.putResult_of_some _ _ _ n _ ha]
    simp only [State.gread_readArgs]

/-- Everything a bitwise form with one register can do (R130). -/
theorem wrote_bitwiseOne (k : Nat) (f : Byte → Byte) (ra : Operand) (s : State) :
    Wrote s (bitwiseOne k f ra s) k ra .w8 (one f (s.srcVal ra .w8)) := by
  rw [bitwiseOne_eq]; exact wrote_putResult s k ra .w8 _

theorem bothValid_eq {n : Nat} (f : BitVec n → BitVec n → BitVec n) (a b : Option (BitVec n)) :
    bothValid f a b = both f a b := by
  cases a <;> cases b <;> rfl

/-- Everything an arithmetic register form can do (R140 to R142). -/
theorem wrote_arithReg (w : Width) (f : BitVec w.bits → BitVec w.bits → BitVec w.bits) (rd ra rb : Operand) (s : State) :
    Wrote s (arithReg w f rd ra rb s) 3 rd w (both f (s.srcVal ra w) (s.srcVal rb w)) := by
  unfold arithReg
  rw [bothValid_eq, State.srcVal_readArgs, State.srcVal_readArgs]
  exact wrote_putResult s 3 rd w _

/-- Everything an arithmetic immediate form can do (R140 to R142, R147). -/
theorem wrote_arithImm (w : Width) (f : BitVec w.bits → BitVec w.bits → BitVec w.bits) (rd ra : Operand)
    (imm : BitVec w.bits) (s : State) :
    Wrote s (arithImm w f rd ra imm s) (2 + w.bytes) rd w (one (fun a => f a imm) (s.srcVal ra w)) := by
  unfold arithImm
  rw [State.srcVal_readArgs]
  exact wrote_putResult s (2 + w.bytes) rd w _

/-- Everything a load-immediate can do to a target other than `mem` (R200). -/
theorem wrote_loadImmediate (w : Width) (ra : Operand) (imm : BitVec w.bits) (p : Addr) (s : State) (h : ra ≠ .mem) :
    Wrote s (loadImmediate w ra imm p s) (1 + w.bytes) ra w (some imm) := by
  have e : loadImmediate w ra imm p s = (s.readArgs (1 + w.bytes)).putResult ra w (some imm) := by
    cases ra <;> first | rfl | exact absurd rfl h
  rw [e]
  exact wrote_putResult s (1 + w.bytes) ra w _

/-- Everything a load-immediate can do to `mem` (R200). -/
theorem movedPointer_loadImmediate (w : Width) (imm : BitVec w.bits) (p : Addr) (s : State) :
    MovedPointer s (loadImmediate w .mem imm p s) (1 + w.bytes) p := by
  exact ⟨rfl, fun m _ => s.reg_readArgs (1 + w.bytes) m, s.readArgs_toNat (1 + w.bytes), SameMemory.of_bus rfl, rfl, rfl,
    SameHidden.readArgs s (1 + w.bytes)⟩

/-- Everything a load can do (R210). -/
theorem wrote_loadThrough (w : Width) (ra : Operand) (s : State) :
    Wrote s (loadThrough w ra s) 1 ra w (some (s.memRead s.mem.toNat w)) := by
  unfold loadThrough
  rw [State.memRead_readArgs]
  exact wrote_putResult s 1 ra w _

/-- Everything a move of general registers can do (R220). -/
theorem wrote_moveGeneral (w : Width) (ra rb : Operand) (s : State) :
    Wrote s (moveGeneral w ra rb s) 2 ra w (s.srcVal rb w) := by
  unfold moveGeneral
  rw [State.srcVal_readArgs]
  exact wrote_putResult s 2 ra w _

/-- Everything the 16-bit move can do (R118, R222). -/
theorem wrote_moveSpecial (ra rb : Operand) (s : State) :
    Wrote s (moveSpecial ra rb s) 2 ra .w16 ((s.readArgs 2).srcVal16S rb) := wrote_putResult s 2 ra .w16 _

/-! ### Stores and block operations -/

/-- Everything a scalar write can do to a byte (R56, R57). -/
theorem State.byteAt_memWrite (s : State) (a : Nat) (w : Width) (v : BitVec w.bits)
    (h : canonical s) (x : Nat) :
    (s.memWrite a w v).byteAt x =
      if s.config.readOnly a then s.byteAt x else (storedByte s.config.cap a w v x).getD (s.byteAt x) := by
  unfold State.memWrite
  by_cases hc : s.config.cap ≤ a
  · rw [if_pos hc]
    split
    · rfl
    · unfold storedByte; rw [if_neg (by omega)]; rfl
  · rw [if_neg hc]
    by_cases hr : s.config.readOnly a = true
    · rw [if_pos hr, if_pos hr]
    · rw [if_neg hr, if_neg hr, State.byteAt_storeBytes s a _ h x, leBytes_length]
      unfold storedByte
      by_cases hx : a ≤ x ∧ x < a + w.bytes ∧ x < s.config.cap
      · rw [if_pos hx, if_pos hx, leBytes_getElem _ _ _ (by omega), Option.getD_some, byte_of_value]
      · rw [if_neg hx, if_neg hx, Option.getD_none]

theorem memWrite_frame (s : State) (a : Nat) (w : Width) (v : BitVec w.bits) :
    s.memWrite a w v = s ∨ s.memWrite a w v = s.storeBytes a (leBytes w.bytes v.toNat) := by
  unfold State.memWrite
  split
  · exact .inl rfl
  · split
    · exact .inl rfl
    · exact .inr rfl

theorem SameHidden.storeBytes (s : State) (k a : Nat) (bs : List Byte) : SameHidden s ((s.readArgs k).storeBytes a bs) := by
  refine ⟨?_, ?_, ?_, ?_, ?_, ?_, ?_, ?_, ?_, ?_, ?_, ?_, ?_, ?_, ?_⟩ <;> simp

/-- Everything an instruction that stores bytes can do. -/
theorem stored_storeBytes (s : State) (k a : Nat) (bs : List Byte) (new : Nat → Option Byte) (h : canonical s)
    (hn : ∀ x, new x = if a ≤ x ∧ x < a + bs.length ∧ x < s.config.cap then some (bs[x - a]?.getD 0) else none) :
    Stored s ((s.readArgs k).storeBytes a bs) k new := by
  have hc : canonical (s.readArgs k) := h
  refine ⟨?_, ?_, fun m _ => s.reg_readArgs k m, s.readArgs_toNat k, by simp [SameSpecials], SameHidden.storeBytes s k a bs⟩
  · intro x b hx
    rw [hn] at hx
    rw [State.byteAt_storeBytes _ _ _ hc, State.readArgs_config]
    split at hx
    · rename_i h'
      rw [if_pos h']; exact Option.some.inj hx
    · cases hx
  · intro x hx
    rw [hn] at hx
    rw [State.byteAt_storeBytes _ _ _ hc, State.readArgs_config]
    split at hx
    · cases hx
    · rename_i h'
      rw [if_neg h', State.byteAt_readArgs]

/-- Everything an instruction that stores nothing can do. -/
theorem stored_nothing (s : State) (k : Nat) (new : Nat → Option Byte) (hn : ∀ x, new x = none) :
    Stored s (s.readArgs k) k new := by
  refine ⟨fun x b hx => ?_, fun x _ => s.byteAt_readArgs k x, fun m _ => s.reg_readArgs k m, s.readArgs_toNat k,
    by simp [SameSpecials], SameHidden.readArgs s k⟩
  rw [hn] at hx; cases hx

/-- Everything a store can do (R210). -/
theorem stored_storeThrough (w : Width) (ra : Operand) (s : State) (h : canonical s) :
    Stored s (storeThrough w ra s) 1 (fun x =>
      if s.config.readOnly s.mem.toNat then none
      else (s.srcVal ra w).bind fun v => storedByte s.config.cap s.mem.toNat w v x) := by
  unfold storeThrough
  rw [State.srcVal_readArgs]
  cases hv : s.srcVal ra w with
  | none => exact stored_nothing s 1 _ fun x => by simp
  | some v =>
    show Stored s ((s.readArgs 1).memWrite s.mem.toNat w v) 1 _
    unfold State.memWrite
    rw [State.readArgs_config]
    by_cases hc : s.config.cap ≤ s.mem.toNat
    · rw [if_pos hc]
      refine stored_nothing s 1 _ fun x => ?_
      simp only [Option.bind_some, storedByte]
      split
      · rfl
      · rw [if_neg (by omega)]
    · rw [if_neg hc]
      by_cases hr : s.config.readOnly s.mem.toNat = true
      · rw [if_pos hr]
        exact stored_nothing s 1 _ fun x => by rw [if_pos hr]
      · rw [if_neg hr]
        refine stored_storeBytes s 1 _ _ _ h fun x => ?_
        rw [if_neg hr, Option.bind_some, leBytes_length]
        unfold storedByte
        by_cases hx : s.mem.toNat ≤ x ∧ x < s.mem.toNat + w.bytes ∧ x < s.config.cap
        · rw [if_pos hx, if_pos hx, leBytes_getElem _ _ _ (by omega), byte_of_value]
        · rw [if_neg hx, if_neg hx]

theorem State.bytesAt_length (s : State) (a n : Nat) : (s.bytesAt a n).length = n := by simp [State.bytesAt]

theorem State.bytesAt_get (s : State) (a n i : Nat) (h : i < n) : (s.bytesAt a n)[i]?.getD 0 = s.byteAt (a + i) := by
  simp [State.bytesAt, h]

/-- Everything a block copy can do (R60). -/
theorem stored_bulkCopy (s : State) (k src dst size : Nat) (h : canonical s) :
    Stored s ((s.readArgs k).bulkCopy src dst size) k (fun x =>
      if dst ≤ x ∧ x < dst + min size (min (s.config.cap - src) (s.config.cap - dst)) then some (s.byteAt (src + (x - dst)))
      else none) := by
  refine stored_storeBytes s k dst _ _ h fun x => ?_
  rw [State.bytesAt_length, bulkCopySize, State.readArgs_config]
  by_cases hx : dst ≤ x ∧ x < dst + min size (min (s.config.cap - src) (s.config.cap - dst))
  · rw [if_pos hx, if_pos (by omega), State.bytesAt_get _ _ _ _ (by omega), State.byteAt_readArgs]
  · rw [if_neg hx, if_neg (by omega)]

/-- Everything a block fill can do (R61). -/
theorem stored_bulkClear (s : State) (k start : Nat) (value : Byte) (size : Nat) (h : canonical s) :
    Stored s ((s.readArgs k).bulkClear start value size) k (fun x =>
      if start ≤ x ∧ x < start + size ∧ x < s.config.cap then some value else none) := by
  refine stored_storeBytes s k start _ _ h fun x => ?_
  rw [List.length_replicate, State.readArgs_config]
  by_cases hx : start ≤ x ∧ x < start + size ∧ x < s.config.cap
  · rw [if_pos hx, if_pos (by omega)]
    simp only [List.getElem?_replicate]
    rw [if_pos (by omega)]; rfl
  · rw [if_neg hx, if_neg (by omega)]

/-! ### Control transfer -/

theorem holds_eq (c : Cond) (w : Width) (ra rb : Operand) (s : State) (k : Nat) (f : Nat → Nat → Bool)
    (hf : ∀ a b : BitVec w.bits, condHolds c a b = f a.toNat b.toNat) :
    branchTaken c w ra rb (s.readArgs k) = holds f (s.srcVal ra w) (s.srcVal rb w) := by
  unfold branchTaken holds
  rw [State.srcVal_readArgs, State.srcVal_readArgs]
  cases s.srcVal ra w <;> cases s.srcVal rb w <;> simp [hf]

/-- Everything a branch can do (R240). -/
theorem went_branch (c : Cond) (w : Width) (ra rb : Operand) (target : Addr) (s : State) (f : Nat → Nat → Bool)
    (hf : ∀ a b : BitVec w.bits, condHolds c a b = f a.toNat b.toNat) :
    SameSpecials s (branch c w ra rb target s) ∧
      Went s (branch c w ra rb target s) (branchNext s (holds f (s.srcVal ra w) (s.srcVal rb w)) target) := by
  unfold branch branchNext
  rw [holds_eq c w ra rb s 4 f hf]
  cases holds f (s.srcVal ra w) (s.srcVal rb w) with
  | true =>
    exact ⟨by simp [SameSpecials], by rw [if_pos rfl]; exact State.jump_nextOpcode _ _, fun m _ => by simp [State.reg],
      SameMemory.of_bus (by simp), by simp, by simp [SameHidden]⟩
  | false =>
    exact ⟨by simp [SameSpecials], s.readArgs_nextOpcode 4, fun m _ => by simp [State.reg],
      SameMemory.of_bus (by simp), by simp, by simp [SameHidden]⟩

/-- Everything `jump` after argument bytes can do (R115). -/
theorem went_jump (s : State) (k : Nat) (t : Addr) : Went s ((s.readArgs k).jump t) (t.toNat % s.config.cap) :=
  ⟨State.jump_nextOpcode _ _, fun m _ => by simp [State.reg], SameMemory.of_bus (by simp), by simp, by simp [SameHidden]⟩

/-! ### The latch, the queue, the arbiter -/

theorem State.request_zero (s : State) : s.request 0 = s := rfl

theorem State.request_ne (s : State) (v : Addr) (h : v ≠ 0) : s.request v = { s with iq := s.iq ++ [v] } := by
  unfold State.request; rw [if_neg h]

theorem State.interrupt_empty (s : State) (v : Addr) (h : s.ilatch = 0) : s.interrupt v = ({ s with ilatch := v }, true) := by
  unfold State.interrupt; rw [if_pos h]

theorem State.interrupt_full (s : State) (v : Addr) (h : s.ilatch ≠ 0) : s.interrupt v = (s, false) := by
  unfold State.interrupt; rw [if_neg h]

/-- Everything arbitration can do (R343): nothing, or the front of the queue moves into the empty latch. -/
theorem arbitrate_cases (p : Bool) (s : State) :
    (arbitrate p s = s ∧ (s.iq = [] ∨ s.ilatch ≠ 0)) ∨
    ∃ front rest, s.iq = front :: rest ∧ s.ilatch = 0 ∧
      arbitrate p s = { s with ilatch := front, iq := rest, paused := p || s.paused } := by
  unfold arbitrate
  cases hq : s.iq with
  | nil => exact .inl ⟨rfl, .inl rfl⟩
  | cons front rest =>
    by_cases hl : s.ilatch = 0
    · refine .inr ⟨front, rest, rfl, hl, ?_⟩
      simp only [State.interrupt_empty s front hl]
    · refine .inl ⟨?_, .inr hl⟩
      simp only [State.interrupt_full s front hl]

end Sys2Proof.Machine
end

