-- ==== Sys2Proof/Laws/Console.lean ====
section
/-! SUPPORT. The video generator, the arbiter, the keyboard mapper and the host's actions: what each leaves alone, and the
shape of one cycle. -/

namespace Sys2Proof.Machine

open Sys2Proof.Safety

/-! ### The video generator touches its own fields, the frame buffer and the queue only -/
@[simp] theorem videoUnit_config (v : VideoParams) (s : State) : (videoUnit v s).config = s.config := by
  unfold videoUnit; split <;> rfl
@[simp] theorem videoUnit_regs (v : VideoParams) (s : State) : (videoUnit v s).regs = s.regs := by
  unfold videoUnit; split <;> rfl
@[simp] theorem videoUnit_pc (v : VideoParams) (s : State) : (videoUnit v s).pc = s.pc := by
  unfold videoUnit; split <;> rfl
@[simp] theorem videoUnit_mem (v : VideoParams) (s : State) : (videoUnit v s).mem = s.mem := by
  unfold videoUnit; split <;> rfl
@[simp] theorem videoUnit_ret (v : VideoParams) (s : State) : (videoUnit v s).ret = s.ret := by
  unfold videoUnit; split <;> rfl
@[simp] theorem videoUnit_int (v : VideoParams) (s : State) : (videoUnit v s).int = s.int := by
  unfold videoUnit; split <;> rfl
@[simp] theorem videoUnit_ilatch (v : VideoParams) (s : State) : (videoUnit v s).ilatch = s.ilatch := by
  unfold videoUnit; split <;> rfl
@[simp] theorem videoUnit_crem (v : VideoParams) (s : State) : (videoUnit v s).crem = s.crem := by
  unfold videoUnit; split <;> rfl
@[simp] theorem videoUnit_cop (v : VideoParams) (s : State) : (videoUnit v s).cop = s.cop := by
  unfold videoUnit; split <;> rfl
@[simp] theorem videoUnit_bus (v : VideoParams) (s : State) : (videoUnit v s).bus = s.bus := by
  unfold videoUnit; split <;> rfl
@[simp] theorem videoUnit_kdirty (v : VideoParams) (s : State) : (videoUnit v s).kdirty = s.kdirty := by
  unfold videoUnit; split <;> rfl
@[simp] theorem videoUnit_tick (v : VideoParams) (s : State) : (videoUnit v s).tick = s.tick := by
  unfold videoUnit; split <;> rfl
@[simp] theorem videoUnit_paused (v : VideoParams) (s : State) : (videoUnit v s).paused = s.paused := by
  unfold videoUnit; split <;> rfl
@[simp] theorem videoUnit_host (v : VideoParams) (s : State) : (videoUnit v s).host = s.host := by
  unfold videoUnit; split <;> rfl
@[simp] theorem startUnits_config (v : VideoParams) : ∀ (n : Nat) (s : State), (startUnits v n s).config = s.config
  | 0, _ => rfl
  | n + 1, s => by
    unfold startUnits
    split
    · rw [startUnits_config v n, videoUnit_config]
    · rfl
@[simp] theorem startUnits_regs (v : VideoParams) : ∀ (n : Nat) (s : State), (startUnits v n s).regs = s.regs
  | 0, _ => rfl
  | n + 1, s => by
    unfold startUnits
    split
    · rw [startUnits_regs v n, videoUnit_regs]
    · rfl
@[simp] theorem startUnits_pc (v : VideoParams) : ∀ (n : Nat) (s : State), (startUnits v n s).pc = s.pc
  | 0, _ => rfl
  | n + 1, s => by
    unfold startUnits
    split
    · rw [startUnits_pc v n, videoUnit_pc]
    · rfl
@[simp] theorem startUnits_mem (v : VideoParams) : ∀ (n : Nat) (s : State), (startUnits v n s).mem = s.mem
  | 0, _ => rfl
  | n + 1, s => by
    unfold startUnits
    split
    · rw [startUnits_mem v n, videoUnit_mem]
    · rfl
@[simp] theorem startUnits_ret (v : VideoParams) : ∀ (n : Nat) (s : State), (startUnits v n s).ret = s.ret
  | 0, _ => rfl
  | n + 1, s => by
    unfold startUnits
    split
    · rw [startUnits_ret v n, videoUnit_ret]
    · rfl
@[simp] theorem startUnits_int (v : VideoParams) : ∀ (n : Nat) (s : State), (startUnits v n s).int = s.int
  | 0, _ => rfl
  | n + 1, s => by
    unfold startUnits
    split
    · rw [startUnits_int v n, videoUnit_int]
    · rfl
@[simp] theorem startUnits_ilatch (v : VideoParams) : ∀ (n : Nat) (s : State), (startUnits v n s).ilatch = s.ilatch
  | 0, _ => rfl
  | n + 1, s => by
    unfold startUnits
    split
    · rw [startUnits_ilatch v n, videoUnit_ilatch]
    · rfl
@[simp] theorem startUnits_crem (v : VideoParams) : ∀ (n : Nat) (s : State), (startUnits v n s).crem = s.crem
  | 0, _ => rfl
  | n + 1, s => by
    unfold startUnits
    split
    · rw [startUnits_crem v n, videoUnit_crem]
    · rfl
@[simp] theorem startUnits_cop (v : VideoParams) : ∀ (n : Nat) (s : State), (startUnits v n s).cop = s.cop
  | 0, _ => rfl
  | n + 1, s => by
    unfold startUnits
    split
    · rw [startUnits_cop v n, videoUnit_cop]
    · rfl
@[simp] theorem startUnits_bus (v : VideoParams) : ∀ (n : Nat) (s : State), (startUnits v n s).bus = s.bus
  | 0, _ => rfl
  | n + 1, s => by
    unfold startUnits
    split
    · rw [startUnits_bus v n, videoUnit_bus]
    · rfl
@[simp] theorem startUnits_kdirty (v : VideoParams) : ∀ (n : Nat) (s : State), (startUnits v n s).kdirty = s.kdirty
  | 0, _ => rfl
  | n + 1, s => by
    unfold startUnits
    split
    · rw [startUnits_kdirty v n, videoUnit_kdirty]
    · rfl
@[simp] theorem startUnits_tick (v : VideoParams) : ∀ (n : Nat) (s : State), (startUnits v n s).tick = s.tick
  | 0, _ => rfl
  | n + 1, s => by
    unfold startUnits
    split
    · rw [startUnits_tick v n, videoUnit_tick]
    · rfl
@[simp] theorem startUnits_paused (v : VideoParams) : ∀ (n : Nat) (s : State), (startUnits v n s).paused = s.paused
  | 0, _ => rfl
  | n + 1, s => by
    unfold startUnits
    split
    · rw [startUnits_paused v n, videoUnit_paused]
    · rfl
@[simp] theorem startUnits_host (v : VideoParams) : ∀ (n : Nat) (s : State), (startUnits v n s).host = s.host
  | 0, _ => rfl
  | n + 1, s => by
    unfold startUnits
    split
    · rw [startUnits_host v n, videoUnit_host]
    · rfl
@[simp] theorem videoCycle_config (v : VideoParams) (s : State) : (videoCycle v s).config = s.config := startUnits_config v maxUnits s
@[simp] theorem videoCycle_regs (v : VideoParams) (s : State) : (videoCycle v s).regs = s.regs := startUnits_regs v maxUnits s
@[simp] theorem videoCycle_pc (v : VideoParams) (s : State) : (videoCycle v s).pc = s.pc := startUnits_pc v maxUnits s
@[simp] theorem videoCycle_mem (v : VideoParams) (s : State) : (videoCycle v s).mem = s.mem := startUnits_mem v maxUnits s
@[simp] theorem videoCycle_ret (v : VideoParams) (s : State) : (videoCycle v s).ret = s.ret := startUnits_ret v maxUnits s
@[simp] theorem videoCycle_int (v : VideoParams) (s : State) : (videoCycle v s).int = s.int := startUnits_int v maxUnits s
@[simp] theorem videoCycle_ilatch (v : VideoParams) (s : State) : (videoCycle v s).ilatch = s.ilatch := startUnits_ilatch v maxUnits s
@[simp] theorem videoCycle_crem (v : VideoParams) (s : State) : (videoCycle v s).crem = s.crem := startUnits_crem v maxUnits s
@[simp] theorem videoCycle_cop (v : VideoParams) (s : State) : (videoCycle v s).cop = s.cop := startUnits_cop v maxUnits s
@[simp] theorem videoCycle_bus (v : VideoParams) (s : State) : (videoCycle v s).bus = s.bus := startUnits_bus v maxUnits s
@[simp] theorem videoCycle_kdirty (v : VideoParams) (s : State) : (videoCycle v s).kdirty = s.kdirty := startUnits_kdirty v maxUnits s
@[simp] theorem videoCycle_tick (v : VideoParams) (s : State) : (videoCycle v s).tick = s.tick := startUnits_tick v maxUnits s
@[simp] theorem videoCycle_paused (v : VideoParams) (s : State) : (videoCycle v s).paused = s.paused := startUnits_paused v maxUnits s
@[simp] theorem videoCycle_host (v : VideoParams) (s : State) : (videoCycle v s).host = s.host := startUnits_host v maxUnits s

/-- Any unit of work but a pixel queues one request at most; a pixel queues none (R334 to R337). -/
theorem videoUnit_iq (v : VideoParams) (s : State) :
    (videoUnit v s).iq = s.iq ∨ ∃ a : Addr, a ≠ 0 ∧ (videoUnit v s).iq = s.iq ++ [a] := by
  have key : ∀ a : Addr, (s.request a).iq = s.iq ∨ ∃ b : Addr, b ≠ 0 ∧ (s.request a).iq = s.iq ++ [b] := by
    intro a
    by_cases h : a = 0
    · subst h; exact .inl rfl
    · exact .inr ⟨a, h, by rw [State.request_ne s a h]⟩
  unfold videoUnit
  split
  · exact .inl rfl
  · exact key _
  · exact key _
  · exact key _

/-- A pixel unit always costs 2 cycles and an h-blank 12 (R334, R335). -/
theorem videoUnit_vrem_pixel (v : VideoParams) (s : State) (h : s.vphase = .pixel) : (videoUnit v s).vrem = 2 := by
  unfold videoUnit; rw [h]; rfl

theorem videoUnit_vrem_hblank (v : VideoParams) (s : State) (h : s.vphase = .hblank) : (videoUnit v s).vrem = 12 := by
  unfold videoUnit; rw [h]; rfl

/-- What holds of a state and is kept by every unit of work is kept by a video cycle, when spending a cycle keeps it. -/
theorem videoCycle_induct (v : VideoParams) (P : State → Prop) (unit : ∀ s, s.vrem = 0 → P s → P (videoUnit v s))
    (spend : ∀ s, P s → P { s with vrem := s.vrem - 1 }) (s : State) (h : P s) : P (videoCycle v s) := by
  have start : ∀ (n : Nat) (s : State), P s → P (startUnits v n s) := by
    intro n
    induction n with
    | zero => exact fun s h => h
    | succ n ih =>
      intro s h
      unfold startUnits
      split
      · rename_i h0; exact ih _ (unit s h0 h)
      · exact h
  exact spend _ (start maxUnits s h)

/-! ### The arbiter touches the latch, the queue and the pause output only -/
@[simp] theorem arbitrate_config (p : Bool) (s : State) : (arbitrate p s).config = s.config := by
  rcases arbitrate_cases p s with ⟨h, _⟩ | ⟨_, _, _, _, h⟩ <;> rw [h]
@[simp] theorem arbitrate_regs (p : Bool) (s : State) : (arbitrate p s).regs = s.regs := by
  rcases arbitrate_cases p s with ⟨h, _⟩ | ⟨_, _, _, _, h⟩ <;> rw [h]
@[simp] theorem arbitrate_pc (p : Bool) (s : State) : (arbitrate p s).pc = s.pc := by
  rcases arbitrate_cases p s with ⟨h, _⟩ | ⟨_, _, _, _, h⟩ <;> rw [h]
@[simp] theorem arbitrate_mem (p : Bool) (s : State) : (arbitrate p s).mem = s.mem := by
  rcases arbitrate_cases p s with ⟨h, _⟩ | ⟨_, _, _, _, h⟩ <;> rw [h]
@[simp] theorem arbitrate_ret (p : Bool) (s : State) : (arbitrate p s).ret = s.ret := by
  rcases arbitrate_cases p s with ⟨h, _⟩ | ⟨_, _, _, _, h⟩ <;> rw [h]
@[simp] theorem arbitrate_int (p : Bool) (s : State) : (arbitrate p s).int = s.int := by
  rcases arbitrate_cases p s with ⟨h, _⟩ | ⟨_, _, _, _, h⟩ <;> rw [h]
@[simp] theorem arbitrate_crem (p : Bool) (s : State) : (arbitrate p s).crem = s.crem := by
  rcases arbitrate_cases p s with ⟨h, _⟩ | ⟨_, _, _, _, h⟩ <;> rw [h]
@[simp] theorem arbitrate_cop (p : Bool) (s : State) : (arbitrate p s).cop = s.cop := by
  rcases arbitrate_cases p s with ⟨h, _⟩ | ⟨_, _, _, _, h⟩ <;> rw [h]
@[simp] theorem arbitrate_bus (p : Bool) (s : State) : (arbitrate p s).bus = s.bus := by
  rcases arbitrate_cases p s with ⟨h, _⟩ | ⟨_, _, _, _, h⟩ <;> rw [h]
@[simp] theorem arbitrate_kdirty (p : Bool) (s : State) : (arbitrate p s).kdirty = s.kdirty := by
  rcases arbitrate_cases p s with ⟨h, _⟩ | ⟨_, _, _, _, h⟩ <;> rw [h]
@[simp] theorem arbitrate_vy (p : Bool) (s : State) : (arbitrate p s).vy = s.vy := by
  rcases arbitrate_cases p s with ⟨h, _⟩ | ⟨_, _, _, _, h⟩ <;> rw [h]
@[simp] theorem arbitrate_vx (p : Bool) (s : State) : (arbitrate p s).vx = s.vx := by
  rcases arbitrate_cases p s with ⟨h, _⟩ | ⟨_, _, _, _, h⟩ <;> rw [h]
@[simp] theorem arbitrate_vphase (p : Bool) (s : State) : (arbitrate p s).vphase = s.vphase := by
  rcases arbitrate_cases p s with ⟨h, _⟩ | ⟨_, _, _, _, h⟩ <;> rw [h]
@[simp] theorem arbitrate_vframe (p : Bool) (s : State) : (arbitrate p s).vframe = s.vframe := by
  rcases arbitrate_cases p s with ⟨h, _⟩ | ⟨_, _, _, _, h⟩ <;> rw [h]
@[simp] theorem arbitrate_vrem (p : Bool) (s : State) : (arbitrate p s).vrem = s.vrem := by
  rcases arbitrate_cases p s with ⟨h, _⟩ | ⟨_, _, _, _, h⟩ <;> rw [h]
@[simp] theorem arbitrate_fb (p : Bool) (s : State) : (arbitrate p s).fb = s.fb := by
  rcases arbitrate_cases p s with ⟨h, _⟩ | ⟨_, _, _, _, h⟩ <;> rw [h]
@[simp] theorem arbitrate_tick (p : Bool) (s : State) : (arbitrate p s).tick = s.tick := by
  rcases arbitrate_cases p s with ⟨h, _⟩ | ⟨_, _, _, _, h⟩ <;> rw [h]
@[simp] theorem arbitrate_host (p : Bool) (s : State) : (arbitrate p s).host = s.host := by
  rcases arbitrate_cases p s with ⟨h, _⟩ | ⟨_, _, _, _, h⟩ <;> rw [h]

/-! ### The host's actions -/

/-- What every single action of the host keeps, the actions due before a cycle keep (R341). -/
theorem State.hostActions_induct (P : State → Prop) (h : ∀ s a, P s → P (s.hostAction a)) :
    ∀ (as : List HostAction) (s : State), P s → P (s.hostActions as)
  | [], _, hs => hs
  | a :: as, s, hs => State.hostActions_induct P h as (s.hostAction a) (h s a hs)

/-- The host's actions change neither the scan position nor the frame buffer nor the queue of actions nor the
configuration. -/
theorem State.hostAction_frame (s : State) (a : HostAction) :
    (s.hostAction a).vy = s.vy ∧ (s.hostAction a).vx = s.vx ∧ (s.hostAction a).vphase = s.vphase ∧
    (s.hostAction a).vframe = s.vframe ∧ (s.hostAction a).vrem = s.vrem ∧ (s.hostAction a).fb = s.fb ∧
    (s.hostAction a).host = s.host ∧ (s.hostAction a).config = s.config := by
  cases a <;> exact ⟨rfl, rfl, rfl, rfl, rfl, rfl, rfl, rfl⟩

theorem State.canonical_hostAction (s : State) (a : HostAction) (h : canonical s) : canonical (s.hostAction a) := by
  cases a with
  | setKey code isDown => exact s.canonical_setKey code isDown h
  | loadProgram bytes addr => exact s.canonical_loadProgram bytes addr h
  | reboot => exact s.canonical_reboot
  | pause => exact h
  | resume => exact h

/-- The host's actions due before a cycle use up one entry of the coming actions. -/
theorem State.takeHostActions_host (s : State) : s.takeHostActions.host = s.host.tail := by
  have := State.hostActions_induct (fun t => t.host = s.host.tail)
    (fun t a h => (t.hostAction_frame a).2.2.2.2.2.2.1.trans h) (s.host.headD []) { s with host := s.host.tail } rfl
  exact this

/-- The host's actions due before a cycle do not change the configuration. -/
theorem State.takeHostActions_config (s : State) : s.takeHostActions.config = s.config :=
  State.hostActions_induct (fun t => t.config = s.config)
    (fun t a h => (t.hostAction_frame a).2.2.2.2.2.2.2.trans h) (s.host.headD []) { s with host := s.host.tail } rfl

/-- With no action due, the host changes nothing. -/
theorem State.takeHostActions_none (s : State) (h : s.host.headD [] = []) :
    s.takeHostActions = { s with host := s.host.tail } := by
  unfold State.takeHostActions; rw [h]; rfl

end Sys2Proof.Machine
end

