-- ==== Sys2Proof/Laws/Decoding.lean ====
section
/-! SUPPORT. Operand bytes, immediates and formats: what the decoder reads back of what the encoder writes. -/

namespace Sys2Proof

open Sys2Proof.Machine

/-- A well-formed operand is the one its byte names (R90). -/
theorem Operand.ofByte_toByte : ∀ o : Operand, o.wellFormed = true → Operand.ofByte o.toByte = o
  | .nil, _ => rfl
  | .pc, _ => rfl
  | .mem, _ => rfl
  | .ret, _ => rfl
  | .int, _ => rfl
  | .gen n, _ => by revert n; decide
  | .unassigned b, h => by
    have e : ∀ x : Byte, assignedOperandByte x = false → Operand.ofByte x = .unassigned x := by decide
    exact e b (by simpa [Operand.wellFormed] using h)

/-- The byte of the operand a byte names is that byte (R90). -/
theorem Operand.toByte_ofByte (b : Byte) : (Operand.ofByte b).toByte = b := by
  revert b; decide

/-- A byte names a well-formed operand (R89, R90). -/
theorem Operand.ofByte_wellFormed (b : Byte) : (Operand.ofByte b).wellFormed = true := by
  revert b; decide

/-- A 16-bit immediate, byte by byte and back (R84). -/
theorem immediate16 (v : BitVec 16) : BitVec.ofNat 16 (leNat (leBytes 2 v.toNat)) = v := ofNat_leNat_leBytes .w16 v

/-- A 32-bit immediate, byte by byte and back (R84). -/
theorem immediate32 (v : BitVec 32) : BitVec.ofNat 32 (leNat (leBytes 4 v.toNat)) = v := ofNat_leNat_leBytes .w32 v

/-- Two bytes, as a 16-bit immediate and back (R84). -/
theorem bytes16 (a b : Byte) : leBytes 2 (BitVec.ofNat 16 (leNat [a, b])).toNat = [a, b] := by
  have h := leNat_lt [a, b]
  rw [show 256 ^ [a, b].length = 2 ^ 16 by simp] at h
  rw [BitVec.toNat_ofNat, Nat.mod_eq_of_lt h]
  exact leBytes_leNat [a, b]

/-- Four bytes, as a 32-bit immediate and back (R84). -/
theorem bytes32 (a b c d : Byte) : leBytes 4 (BitVec.ofNat 32 (leNat [a, b, c, d])).toNat = [a, b, c, d] := by
  have h := leNat_lt [a, b, c, d]
  rw [show 256 ^ [a, b, c, d].length = 2 ^ 32 by simp] at h
  rw [BitVec.toNat_ofNat, Nat.mod_eq_of_lt h]
  exact leBytes_leNat [a, b, c, d]

/-! ### Renumbering -/

theorem exchange_exchange (p : Byte × Byte) (b : Byte) : exchange p (exchange p b) = b := by
  unfold exchange
  split
  · rename_i h; split
    · rename_i h'; rw [h, h']
    · rw [if_pos rfl, h]
  · split
    · rename_i h; rw [if_pos rfl, h]
    · rfl

/-- A renumbered byte stands for the byte it was made from. -/
theorem original_renumber : ∀ (ps : List (Byte × Byte)) (b : Byte), original ps (renumber ps b) = b
  | [], _ => rfl
  | p :: ps, b => by
    show exchange p (original ps (renumber ps (exchange p b))) = b
    rw [original_renumber ps, exchange_exchange]

/-- The byte that stands for what a byte means is that byte. -/
theorem renumber_original : ∀ (ps : List (Byte × Byte)) (b : Byte), renumber ps (original ps b) = b
  | [], _ => rfl
  | p :: ps, b => by
    show renumber ps (exchange p (exchange p (original ps b))) = b
    rw [exchange_exchange, renumber_original ps]

/-- The operand an operand's byte names, under every numbering (R6, R90). -/
theorem Configuration.operand_toByte (c : Configuration) (o : Operand) (h : o.wellFormed = true) :
    c.operand (renumber c.regmap o.toByte) = o := by
  unfold Configuration.operand
  rw [original_renumber, Operand.ofByte_toByte o h]

/-- The byte of the operand a byte names is that byte, under every numbering (R6, R90). -/
theorem Configuration.toByte_operand (c : Configuration) (b : Byte) : renumber c.regmap (c.operand b).toByte = b := by
  unfold Configuration.operand
  rw [Operand.toByte_ofByte, renumber_original]

/-- A byte names a well-formed operand, under every numbering (R89, R90). -/
theorem Configuration.operand_wellFormed (c : Configuration) (b : Byte) : (c.operand b).wellFormed = true :=
  Operand.ofByte_wellFormed _

/-! ### Formats and opcodes -/

/-- What decodes: a row's opcode byte, renumbered, and arguments its format reads. -/
theorem decodeIn_of_form (c : Configuration) (op : Byte) (args : List Byte) (f : Form) (i : Instr)
    (h : formIn op opcodeTable = some f) (hr : f.read c.operand args = some i) :
    decodeIn c (renumber c.opmap op :: args) = .ok i := by
  simp only [decodeIn, Configuration.opcode, original_renumber, h, hr]

/-- Six argument bytes are enough for every format (R80, R83). -/
theorem Form.read_isSome (reg : Byte → Operand) (f : Form) (args : List Byte) (h : 6 ≤ args.length) :
    (f.read reg args).isSome = true := by
  match args, h with
  | _ :: _ :: _ :: _ :: _ :: _ :: _, _ => cases f <;> rfl

/-- A known opcode with six bytes after it always decodes. -/
theorem decodeIn_of_known (c : Configuration) (op : Byte) (args : List Byte) (hk : knownOpcode c op = true)
    (h : 6 ≤ args.length) : ∃ i, decodeIn c (op :: args) = .ok i := by
  unfold knownOpcode at hk
  cases hf : formIn (c.opcode op) opcodeTable with
  | none => rw [hf] at hk; cases hk
  | some f =>
    have hs := f.read_isSome c.operand args h
    cases hr : f.read c.operand args with
    | none => rw [hr] at hs; cases hs
    | some i => exact ⟨i, by simp only [decodeIn, hf, hr]⟩

/-- An unknown opcode never decodes (R88). -/
theorem decodeIn_of_unknown (c : Configuration) (op : Byte) (args : List Byte) (hk : knownOpcode c op = false) :
    decodeIn c (op :: args) = .error (.unknownOpcode op) := by
  unfold knownOpcode at hk
  cases hf : formIn (c.opcode op) opcodeTable with
  | none => simp only [decodeIn, hf]
  | some f => rw [hf] at hk; cases hk

end Sys2Proof
end

