-- ==== Sys2Proof/Laws/PerInstr.lean ====
section
/-! SUPPORT. Statements made of every instruction, one lemma for each constructor. -/

namespace Sys2Proof.Laws

/-- The encoding of an instruction has as many bytes as its format says (R80, R83). -/
def EncodeLength.Statement (i : Instr) : Prop := (encode i).length = i.length

theorem EncodeLength.nop : EncodeLength.Statement .nop :=
  rfl

theorem EncodeLength.nopi (imm : Byte) : EncodeLength.Statement (.nopi imm) :=
  rfl

theorem EncodeLength.and (ra rb : Operand) : EncodeLength.Statement (.and ra rb) :=
  rfl

theorem EncodeLength.or (ra rb : Operand) : EncodeLength.Statement (.or ra rb) :=
  rfl

theorem EncodeLength.xor (ra rb : Operand) : EncodeLength.Statement (.xor ra rb) :=
  rfl

theorem EncodeLength.not (ra : Operand) : EncodeLength.Statement (.not ra) :=
  rfl

theorem EncodeLength.andi (ra : Operand) (imm : Byte) : EncodeLength.Statement (.andi ra imm) :=
  rfl

theorem EncodeLength.ori (ra : Operand) (imm : Byte) : EncodeLength.Statement (.ori ra imm) :=
  rfl

theorem EncodeLength.xori (ra : Operand) (imm : Byte) : EncodeLength.Statement (.xori ra imm) :=
  rfl

theorem EncodeLength.shl (ra : Operand) (imm : Byte) : EncodeLength.Statement (.shl ra imm) :=
  rfl

theorem EncodeLength.shr (ra : Operand) (imm : Byte) : EncodeLength.Statement (.shr ra imm) :=
  rfl

theorem EncodeLength.li8 (ra : Operand) (imm : Byte) : EncodeLength.Statement (.li8 ra imm) :=
  rfl

theorem EncodeLength.li16 (ra : Operand) (imm : BitVec 16) : EncodeLength.Statement (.li16 ra imm) :=
  rfl

theorem EncodeLength.li32 (ra : Operand) (imm : BitVec 32) : EncodeLength.Statement (.li32 ra imm) :=
  rfl

theorem EncodeLength.lui8 (ra : Operand) (imm : Byte) : EncodeLength.Statement (.lui8 ra imm) :=
  rfl

theorem EncodeLength.lui16 (ra : Operand) (imm : BitVec 16) : EncodeLength.Statement (.lui16 ra imm) :=
  rfl

theorem EncodeLength.lui32 (ra : Operand) (imm : BitVec 32) : EncodeLength.Statement (.lui32 ra imm) :=
  rfl

theorem EncodeLength.lm8 (ra : Operand) : EncodeLength.Statement (.lm8 ra) :=
  rfl

theorem EncodeLength.lm16 (ra : Operand) : EncodeLength.Statement (.lm16 ra) :=
  rfl

theorem EncodeLength.lm32 (ra : Operand) : EncodeLength.Statement (.lm32 ra) :=
  rfl

theorem EncodeLength.sm8 (ra : Operand) : EncodeLength.Statement (.sm8 ra) :=
  rfl

theorem EncodeLength.sm16 (ra : Operand) : EncodeLength.Statement (.sm16 ra) :=
  rfl

theorem EncodeLength.sm32 (ra : Operand) : EncodeLength.Statement (.sm32 ra) :=
  rfl

theorem EncodeLength.mov8 (ra rb : Operand) : EncodeLength.Statement (.mov8 ra rb) :=
  rfl

theorem EncodeLength.mov16 (ra rb : Operand) : EncodeLength.Statement (.mov16 ra rb) :=
  rfl

theorem EncodeLength.mov32 (ra rb : Operand) : EncodeLength.Statement (.mov32 ra rb) :=
  rfl

theorem EncodeLength.add8 (rd ra rb : Operand) : EncodeLength.Statement (.add8 rd ra rb) :=
  rfl

theorem EncodeLength.add16 (rd ra rb : Operand) : EncodeLength.Statement (.add16 rd ra rb) :=
  rfl

theorem EncodeLength.add32 (rd ra rb : Operand) : EncodeLength.Statement (.add32 rd ra rb) :=
  rfl

theorem EncodeLength.addi8 (rd ra : Operand) (imm : Byte) : EncodeLength.Statement (.addi8 rd ra imm) :=
  rfl

theorem EncodeLength.addi16 (rd ra : Operand) (imm : BitVec 16) : EncodeLength.Statement (.addi16 rd ra imm) :=
  rfl

theorem EncodeLength.addi32 (rd ra : Operand) (imm : BitVec 32) : EncodeLength.Statement (.addi32 rd ra imm) :=
  rfl

theorem EncodeLength.addu8 (rd ra rb : Operand) : EncodeLength.Statement (.addu8 rd ra rb) :=
  rfl

theorem EncodeLength.addu16 (rd ra rb : Operand) : EncodeLength.Statement (.addu16 rd ra rb) :=
  rfl

theorem EncodeLength.addu32 (rd ra rb : Operand) : EncodeLength.Statement (.addu32 rd ra rb) :=
  rfl

theorem EncodeLength.addui8 (rd ra : Operand) (imm : Byte) : EncodeLength.Statement (.addui8 rd ra imm) :=
  rfl

theorem EncodeLength.addui16 (rd ra : Operand) (imm : BitVec 16) : EncodeLength.Statement (.addui16 rd ra imm) :=
  rfl

theorem EncodeLength.addui32 (rd ra : Operand) (imm : BitVec 32) : EncodeLength.Statement (.addui32 rd ra imm) :=
  rfl

theorem EncodeLength.sub8 (rd ra rb : Operand) : EncodeLength.Statement (.sub8 rd ra rb) :=
  rfl

theorem EncodeLength.sub16 (rd ra rb : Operand) : EncodeLength.Statement (.sub16 rd ra rb) :=
  rfl

theorem EncodeLength.sub32 (rd ra rb : Operand) : EncodeLength.Statement (.sub32 rd ra rb) :=
  rfl

theorem EncodeLength.subi8 (rd ra : Operand) (imm : Byte) : EncodeLength.Statement (.subi8 rd ra imm) :=
  rfl

theorem EncodeLength.subi16 (rd ra : Operand) (imm : BitVec 16) : EncodeLength.Statement (.subi16 rd ra imm) :=
  rfl

theorem EncodeLength.subi32 (rd ra : Operand) (imm : BitVec 32) : EncodeLength.Statement (.subi32 rd ra imm) :=
  rfl

theorem EncodeLength.subu8 (rd ra rb : Operand) : EncodeLength.Statement (.subu8 rd ra rb) :=
  rfl

theorem EncodeLength.subu16 (rd ra rb : Operand) : EncodeLength.Statement (.subu16 rd ra rb) :=
  rfl

theorem EncodeLength.subu32 (rd ra rb : Operand) : EncodeLength.Statement (.subu32 rd ra rb) :=
  rfl

theorem EncodeLength.subui8 (rd ra : Operand) (imm : Byte) : EncodeLength.Statement (.subui8 rd ra imm) :=
  rfl

theorem EncodeLength.subui16 (rd ra : Operand) (imm : BitVec 16) : EncodeLength.Statement (.subui16 rd ra imm) :=
  rfl

theorem EncodeLength.subui32 (rd ra : Operand) (imm : BitVec 32) : EncodeLength.Statement (.subui32 rd ra imm) :=
  rfl

theorem EncodeLength.mul8 (rd ra rb : Operand) : EncodeLength.Statement (.mul8 rd ra rb) :=
  rfl

theorem EncodeLength.mul16 (rd ra rb : Operand) : EncodeLength.Statement (.mul16 rd ra rb) :=
  rfl

theorem EncodeLength.mul32 (rd ra rb : Operand) : EncodeLength.Statement (.mul32 rd ra rb) :=
  rfl

theorem EncodeLength.muli8 (rd ra : Operand) (imm : Byte) : EncodeLength.Statement (.muli8 rd ra imm) :=
  rfl

theorem EncodeLength.muli16 (rd ra : Operand) (imm : BitVec 16) : EncodeLength.Statement (.muli16 rd ra imm) :=
  rfl

theorem EncodeLength.muli32 (rd ra : Operand) (imm : BitVec 32) : EncodeLength.Statement (.muli32 rd ra imm) :=
  rfl

theorem EncodeLength.mulu8 (rd ra rb : Operand) : EncodeLength.Statement (.mulu8 rd ra rb) :=
  rfl

theorem EncodeLength.mulu16 (rd ra rb : Operand) : EncodeLength.Statement (.mulu16 rd ra rb) :=
  rfl

theorem EncodeLength.mulu32 (rd ra rb : Operand) : EncodeLength.Statement (.mulu32 rd ra rb) :=
  rfl

theorem EncodeLength.mului8 (rd ra : Operand) (imm : Byte) : EncodeLength.Statement (.mului8 rd ra imm) :=
  rfl

theorem EncodeLength.mului16 (rd ra : Operand) (imm : BitVec 16) : EncodeLength.Statement (.mului16 rd ra imm) :=
  rfl

theorem EncodeLength.mului32 (rd ra : Operand) (imm : BitVec 32) : EncodeLength.Statement (.mului32 rd ra imm) :=
  rfl

theorem EncodeLength.div8 (rd ra rb : Operand) : EncodeLength.Statement (.div8 rd ra rb) :=
  rfl

theorem EncodeLength.div16 (rd ra rb : Operand) : EncodeLength.Statement (.div16 rd ra rb) :=
  rfl

theorem EncodeLength.div32 (rd ra rb : Operand) : EncodeLength.Statement (.div32 rd ra rb) :=
  rfl

theorem EncodeLength.divi8 (rd ra : Operand) (imm : Byte) : EncodeLength.Statement (.divi8 rd ra imm) :=
  rfl

theorem EncodeLength.divi16 (rd ra : Operand) (imm : BitVec 16) : EncodeLength.Statement (.divi16 rd ra imm) :=
  rfl

theorem EncodeLength.divi32 (rd ra : Operand) (imm : BitVec 32) : EncodeLength.Statement (.divi32 rd ra imm) :=
  rfl

theorem EncodeLength.divu8 (rd ra rb : Operand) : EncodeLength.Statement (.divu8 rd ra rb) :=
  rfl

theorem EncodeLength.divu16 (rd ra rb : Operand) : EncodeLength.Statement (.divu16 rd ra rb) :=
  rfl

theorem EncodeLength.divu32 (rd ra rb : Operand) : EncodeLength.Statement (.divu32 rd ra rb) :=
  rfl

theorem EncodeLength.divui8 (rd ra : Operand) (imm : Byte) : EncodeLength.Statement (.divui8 rd ra imm) :=
  rfl

theorem EncodeLength.divui16 (rd ra : Operand) (imm : BitVec 16) : EncodeLength.Statement (.divui16 rd ra imm) :=
  rfl

theorem EncodeLength.divui32 (rd ra : Operand) (imm : BitVec 32) : EncodeLength.Statement (.divui32 rd ra imm) :=
  rfl

theorem EncodeLength.beq8 (ra rb : Operand) (target : Addr) : EncodeLength.Statement (.beq8 ra rb target) :=
  rfl

theorem EncodeLength.beq16 (ra rb : Operand) (target : Addr) : EncodeLength.Statement (.beq16 ra rb target) :=
  rfl

theorem EncodeLength.beq32 (ra rb : Operand) (target : Addr) : EncodeLength.Statement (.beq32 ra rb target) :=
  rfl

theorem EncodeLength.blt8 (ra rb : Operand) (target : Addr) : EncodeLength.Statement (.blt8 ra rb target) :=
  rfl

theorem EncodeLength.blt16 (ra rb : Operand) (target : Addr) : EncodeLength.Statement (.blt16 ra rb target) :=
  rfl

theorem EncodeLength.blt32 (ra rb : Operand) (target : Addr) : EncodeLength.Statement (.blt32 ra rb target) :=
  rfl

theorem EncodeLength.ble8 (ra rb : Operand) (target : Addr) : EncodeLength.Statement (.ble8 ra rb target) :=
  rfl

theorem EncodeLength.ble16 (ra rb : Operand) (target : Addr) : EncodeLength.Statement (.ble16 ra rb target) :=
  rfl

theorem EncodeLength.ble32 (ra rb : Operand) (target : Addr) : EncodeLength.Statement (.ble32 ra rb target) :=
  rfl

theorem EncodeLength.bgt8 (ra rb : Operand) (target : Addr) : EncodeLength.Statement (.bgt8 ra rb target) :=
  rfl

theorem EncodeLength.bgt16 (ra rb : Operand) (target : Addr) : EncodeLength.Statement (.bgt16 ra rb target) :=
  rfl

theorem EncodeLength.bgt32 (ra rb : Operand) (target : Addr) : EncodeLength.Statement (.bgt32 ra rb target) :=
  rfl

theorem EncodeLength.bge8 (ra rb : Operand) (target : Addr) : EncodeLength.Statement (.bge8 ra rb target) :=
  rfl

theorem EncodeLength.bge16 (ra rb : Operand) (target : Addr) : EncodeLength.Statement (.bge16 ra rb target) :=
  rfl

theorem EncodeLength.bge32 (ra rb : Operand) (target : Addr) : EncodeLength.Statement (.bge32 ra rb target) :=
  rfl

theorem EncodeLength.bne8 (ra rb : Operand) (target : Addr) : EncodeLength.Statement (.bne8 ra rb target) :=
  rfl

theorem EncodeLength.bne16 (ra rb : Operand) (target : Addr) : EncodeLength.Statement (.bne16 ra rb target) :=
  rfl

theorem EncodeLength.bne32 (ra rb : Operand) (target : Addr) : EncodeLength.Statement (.bne32 ra rb target) :=
  rfl

theorem EncodeLength.mvm (src dst : Addr) (len : Byte) : EncodeLength.Statement (.mvm src dst len) :=
  rfl

theorem EncodeLength.clm (addr : Addr) (len val : Byte) : EncodeLength.Statement (.clm addr len val) :=
  rfl

theorem EncodeLength.jmp (target : Addr) : EncodeLength.Statement (.jmp target) :=
  rfl

theorem EncodeLength.call (target : Addr) : EncodeLength.Statement (.call target) :=
  rfl

theorem EncodeLength.ret : EncodeLength.Statement .ret :=
  rfl

theorem EncodeLength.rint : EncodeLength.Statement .rint :=
  rfl

end Sys2Proof.Laws
end

