-- ==== Sys2Proof/Tests/Slice0.lean ====
section
/-! SUPPORT. Small tests of the model against the spec's own vectors and worked examples (95_test_vectors.md), and for each
statement that has hypotheses a concrete case that meets them. -/

namespace Sys2Proof.Tests

open Sys2Proof Sys2Proof.Machine Sys2Proof.Safety

/-- Each list of bytes decodes to the instruction beside it. -/
def decodesTo (l : List (List Byte × Instr)) : Bool :=
  l.all fun e => match decode e.1 with
    | .ok i => decide (i = e.2)
    | .error _ => false

/-- A state with general registers, memory bytes, and instruction bytes at `pc`; all else as after reset. -/
def start (pc : Addr) (bytes : List Byte) (regs : List (Nat × Width × Nat)) (memory : List (Nat × List Byte)) : State :=
  { (memory.foldl (fun s e => s.storeBytes e.1 e.2)
      (regs.foldl (fun s e => s.gwrite e.1 e.2.1 (BitVec.ofNat _ e.2.2)) State.reset)).placeBytes pc.toNat bytes with
    pc := pc }

/-- What is seen after the one instruction at `pc`. -/
def after (s : State) (see : State → List Nat) : Option (List Nat) :=
  match instructionStep s with
  | .next t => some (see t)
  | _ => none

/-! ### Decoding -/

/-- Words of the spec's vectors (95_test_vectors.md), one for each instruction. -/
theorem test_decode_noop : decodesTo [
    ([0x00], .nop),
    ([0x01, 0x05], (.nopi 0x05))] = true := by decide

/-- Words of the spec's vectors (95_test_vectors.md), one for each instruction. -/
theorem test_decode_bitwise : decodesTo [
    ([0x10, 0x10, 0x11], (.and (.gen 0) (.gen 1))),
    ([0x11, 0x10, 0x11], (.or (.gen 0) (.gen 1))),
    ([0x12, 0x10, 0x11], (.xor (.gen 0) (.gen 1))),
    ([0x13, 0x10], (.not (.gen 0))),
    ([0x14, 0x10, 0x0F], (.andi (.gen 0) 0x0F)),
    ([0x15, 0x10, 0x0F], (.ori (.gen 0) 0x0F)),
    ([0x16, 0x10, 0xFF], (.xori (.gen 0) 0xFF)),
    ([0x18, 0x10, 0x01], (.shl (.gen 0) 0x01)),
    ([0x19, 0x10, 0x01], (.shr (.gen 0) 0x01))] = true := by decide

/-- Words of the spec's vectors (95_test_vectors.md), one for each instruction. -/
theorem test_decode_load_immediate : decodesTo [
    ([0x20, 0x10, 0xFF], (.li8 (.gen 0) 0xFF)),
    ([0x21, 0x10, 0x34, 0x12], (.li16 (.gen 0) 0x1234)),
    ([0x22, 0x14, 0xEF, 0xBE, 0xAD, 0xDE], (.li32 (.gen 4) 0xDEADBEEF)),
    ([0x24, 0x19, 0x80], (.lui8 (.gen 9) 0x80)),
    ([0x25, 0x02, 0x00, 0x90], (.lui16 .mem 0x9000)),
    ([0x26, 0x02, 0x00, 0x80, 0xFF, 0xFF], (.lui32 .mem 0xFFFF8000))] = true := by decide

/-- Words of the spec's vectors (95_test_vectors.md), one for each instruction. -/
theorem test_decode_load_store : decodesTo [
    ([0x30, 0x10], (.lm8 (.gen 0))),
    ([0x31, 0x10], (.lm16 (.gen 0))),
    ([0x32, 0x14], (.lm32 (.gen 4))),
    ([0x34, 0x10], (.sm8 (.gen 0))),
    ([0x35, 0x10], (.sm16 (.gen 0))),
    ([0x36, 0x10], (.sm32 (.gen 0)))] = true := by decide

/-- Words of the spec's vectors (95_test_vectors.md), one for each instruction. -/
theorem test_decode_move : decodesTo [
    ([0x38, 0x11, 0x10], (.mov8 (.gen 1) (.gen 0))),
    ([0x39, 0x12, 0x10], (.mov16 (.gen 2) (.gen 0))),
    ([0x3A, 0x14, 0x10], (.mov32 (.gen 4) (.gen 0)))] = true := by decide

/-- Words of the spec's vectors (95_test_vectors.md), one for each instruction. -/
theorem test_decode_add : decodesTo [
    ([0x40, 0x12, 0x10, 0x11], (.add8 (.gen 2) (.gen 0) (.gen 1))),
    ([0x41, 0x18, 0x10, 0x14], (.add16 (.gen 8) (.gen 0) (.gen 4))),
    ([0x42, 0x18, 0x10, 0x14], (.add32 (.gen 8) (.gen 0) (.gen 4))),
    ([0x44, 0x18, 0x10, 0xFE], (.addi8 (.gen 8) (.gen 0) 0xFE)),
    ([0x45, 0x18, 0x10, 0xFE, 0xFF], (.addi16 (.gen 8) (.gen 0) 0xFFFE)),
    ([0x46, 0x18, 0x10, 0xFE, 0xFF, 0xFF, 0xFF], (.addi32 (.gen 8) (.gen 0) 0xFFFFFFFE)),
    ([0x48, 0x12, 0x10, 0x11], (.addu8 (.gen 2) (.gen 0) (.gen 1))),
    ([0x49, 0x18, 0x10, 0x14], (.addu16 (.gen 8) (.gen 0) (.gen 4))),
    ([0x4A, 0x18, 0x10, 0x14], (.addu32 (.gen 8) (.gen 0) (.gen 4))),
    ([0x4C, 0x18, 0x10, 0xFE], (.addui8 (.gen 8) (.gen 0) 0xFE)),
    ([0x4D, 0x18, 0x10, 0xFE, 0xFF], (.addui16 (.gen 8) (.gen 0) 0xFFFE)),
    ([0x4E, 0x14, 0x00, 0xEF, 0xBE, 0xAD, 0xDE], (.addui32 (.gen 4) .nil 0xDEADBEEF))] = true := by decide

/-- Words of the spec's vectors (95_test_vectors.md), one for each instruction. -/
theorem test_decode_sub : decodesTo [
    ([0x50, 0x12, 0x10, 0x11], (.sub8 (.gen 2) (.gen 0) (.gen 1))),
    ([0x51, 0x18, 0x10, 0x14], (.sub16 (.gen 8) (.gen 0) (.gen 4))),
    ([0x52, 0x10, 0x00, 0x14], (.sub32 (.gen 0) .nil (.gen 4))),
    ([0x54, 0x18, 0x10, 0xFE], (.subi8 (.gen 8) (.gen 0) 0xFE)),
    ([0x55, 0x18, 0x10, 0xFE, 0xFF], (.subi16 (.gen 8) (.gen 0) 0xFFFE)),
    ([0x56, 0x18, 0x10, 0xFE, 0xFF, 0xFF, 0xFF], (.subi32 (.gen 8) (.gen 0) 0xFFFFFFFE)),
    ([0x58, 0x18, 0x10, 0x14], (.subu8 (.gen 8) (.gen 0) (.gen 4))),
    ([0x59, 0x18, 0x10, 0x14], (.subu16 (.gen 8) (.gen 0) (.gen 4))),
    ([0x5A, 0x18, 0x10, 0x14], (.subu32 (.gen 8) (.gen 0) (.gen 4))),
    ([0x5C, 0x18, 0x10, 0xFE], (.subui8 (.gen 8) (.gen 0) 0xFE)),
    ([0x5D, 0x18, 0x10, 0xFE, 0xFF], (.subui16 (.gen 8) (.gen 0) 0xFFFE)),
    ([0x5E, 0x18, 0x10, 0xFE, 0xFF, 0xFF, 0xFF], (.subui32 (.gen 8) (.gen 0) 0xFFFFFFFE))] = true := by decide

/-- Words of the spec's vectors (95_test_vectors.md), one for each instruction. -/
theorem test_decode_mul : decodesTo [
    ([0x60, 0x12, 0x10, 0x11], (.mul8 (.gen 2) (.gen 0) (.gen 1))),
    ([0x61, 0x14, 0x10, 0x12], (.mul16 (.gen 4) (.gen 0) (.gen 2))),
    ([0x62, 0x18, 0x10, 0x14], (.mul32 (.gen 8) (.gen 0) (.gen 4))),
    ([0x64, 0x18, 0x10, 0xFE], (.muli8 (.gen 8) (.gen 0) 0xFE)),
    ([0x65, 0x18, 0x10, 0xFE, 0xFF], (.muli16 (.gen 8) (.gen 0) 0xFFFE)),
    ([0x66, 0x18, 0x10, 0xFE, 0xFF, 0xFF, 0xFF], (.muli32 (.gen 8) (.gen 0) 0xFFFFFFFE)),
    ([0x68, 0x12, 0x10, 0x11], (.mulu8 (.gen 2) (.gen 0) (.gen 1))),
    ([0x69, 0x18, 0x10, 0x14], (.mulu16 (.gen 8) (.gen 0) (.gen 4))),
    ([0x6A, 0x18, 0x10, 0x14], (.mulu32 (.gen 8) (.gen 0) (.gen 4))),
    ([0x6C, 0x18, 0x10, 0xFE], (.mului8 (.gen 8) (.gen 0) 0xFE)),
    ([0x6D, 0x12, 0x10, 0x03, 0x00], (.mului16 (.gen 2) (.gen 0) 0x0003)),
    ([0x6E, 0x18, 0x10, 0xFE, 0xFF, 0xFF, 0xFF], (.mului32 (.gen 8) (.gen 0) 0xFFFFFFFE))] = true := by decide

/-- Words of the spec's vectors (95_test_vectors.md), one for each instruction. -/
theorem test_decode_div : decodesTo [
    ([0x70, 0x12, 0x10, 0x11], (.div8 (.gen 2) (.gen 0) (.gen 1))),
    ([0x71, 0x14, 0x10, 0x12], (.div16 (.gen 4) (.gen 0) (.gen 2))),
    ([0x72, 0x18, 0x10, 0x14], (.div32 (.gen 8) (.gen 0) (.gen 4))),
    ([0x74, 0x12, 0x10, 0xFE], (.divi8 (.gen 2) (.gen 0) 0xFE)),
    ([0x75, 0x18, 0x10, 0xFE, 0xFF], (.divi16 (.gen 8) (.gen 0) 0xFFFE)),
    ([0x76, 0x18, 0x10, 0xFE, 0xFF, 0xFF, 0xFF], (.divi32 (.gen 8) (.gen 0) 0xFFFFFFFE)),
    ([0x78, 0x12, 0x10, 0x11], (.divu8 (.gen 2) (.gen 0) (.gen 1))),
    ([0x79, 0x14, 0x10, 0x00], (.divu16 (.gen 4) (.gen 0) .nil)),
    ([0x7A, 0x18, 0x10, 0x14], (.divu32 (.gen 8) (.gen 0) (.gen 4))),
    ([0x7C, 0x12, 0x10, 0xFE], (.divui8 (.gen 2) (.gen 0) 0xFE)),
    ([0x7D, 0x18, 0x10, 0xFE, 0xFF], (.divui16 (.gen 8) (.gen 0) 0xFFFE)),
    ([0x7E, 0x18, 0x10, 0xFE, 0xFF, 0xFF, 0xFF], (.divui32 (.gen 8) (.gen 0) 0xFFFFFFFE))] = true := by decide

/-- Words of the spec's vectors (95_test_vectors.md), one for each instruction. -/
theorem test_decode_branch : decodesTo [
    ([0x80, 0x10, 0x11, 0x40, 0x00], (.beq8 (.gen 0) (.gen 1) 0x0040)),
    ([0x81, 0x10, 0x14, 0x40, 0x00], (.beq16 (.gen 0) (.gen 4) 0x0040)),
    ([0x82, 0x10, 0x14, 0x40, 0x00], (.beq32 (.gen 0) (.gen 4) 0x0040)),
    ([0x84, 0x10, 0x11, 0x40, 0x00], (.blt8 (.gen 0) (.gen 1) 0x0040)),
    ([0x85, 0x10, 0x12, 0x40, 0x00], (.blt16 (.gen 0) (.gen 2) 0x0040)),
    ([0x86, 0x10, 0x14, 0x40, 0x00], (.blt32 (.gen 0) (.gen 4) 0x0040)),
    ([0x88, 0x10, 0x11, 0x40, 0x00], (.ble8 (.gen 0) (.gen 1) 0x0040)),
    ([0x89, 0x10, 0x14, 0x40, 0x00], (.ble16 (.gen 0) (.gen 4) 0x0040)),
    ([0x8A, 0x10, 0x14, 0x40, 0x00], (.ble32 (.gen 0) (.gen 4) 0x0040)),
    ([0x8C, 0x10, 0x11, 0x40, 0x00], (.bgt8 (.gen 0) (.gen 1) 0x0040)),
    ([0x8D, 0x10, 0x14, 0x40, 0x00], (.bgt16 (.gen 0) (.gen 4) 0x0040)),
    ([0x8E, 0x10, 0x14, 0x40, 0x00], (.bgt32 (.gen 0) (.gen 4) 0x0040)),
    ([0x90, 0x10, 0x11, 0x40, 0x00], (.bge8 (.gen 0) (.gen 1) 0x0040)),
    ([0x91, 0x10, 0x14, 0x40, 0x00], (.bge16 (.gen 0) (.gen 4) 0x0040)),
    ([0x92, 0x10, 0x14, 0x40, 0x00], (.bge32 (.gen 0) (.gen 4) 0x0040)),
    ([0x94, 0x10, 0x14, 0x40, 0x00], (.bne8 (.gen 0) (.gen 4) 0x0040)),
    ([0x95, 0x10, 0x14, 0x40, 0x00], (.bne16 (.gen 0) (.gen 4) 0x0040)),
    ([0x96, 0x10, 0x14, 0x40, 0x00], (.bne32 (.gen 0) (.gen 4) 0x0040))] = true := by decide

/-- Words of the spec's vectors (95_test_vectors.md), one for each instruction. -/
theorem test_decode_bulk : decodesTo [
    ([0xA0, 0x00, 0x03, 0xCE, 0x98, 0x04], (.mvm 0x0300 0x98CE 0x04)),
    ([0xA1, 0xCE, 0x98, 0x08, 0x55], (.clm 0x98CE 0x08 0x55))] = true := by decide

/-- Words of the spec's vectors (95_test_vectors.md), one for each instruction. -/
theorem test_decode_jump_call : decodesTo [
    ([0xB0, 0x34, 0x12], (.jmp 0x1234)),
    ([0xB1, 0x00, 0x01], (.call 0x0100)),
    ([0xB2], .ret),
    ([0xB3], .rint)] = true := by decide

/-! ### One instruction -/

/-- V-NO-2. -/
theorem test_nop_NO_2 :
    after (start 0x98CF [0x00] [] []) (fun t => [t.pc.toNat]) =
      some [0x0000] := by decide
/-- V-NO-10. -/
theorem test_nop_NO_10 :
    after { start 0x0010 [0x00] [] [] with ilatch := 0x0400 } (fun t => [t.int.toNat, t.ilatch.toNat, t.pc.toNat]) =
      some [0x0011, 0x0000, 0x0400] := by decide
/-- V-NO-6. -/
theorem test_nopi_NO_6 :
    after (start 0x98CF [0x01, 0x07] [] []) (fun t => [t.pc.toNat]) =
      some [0x0001] := by decide
/-- V-BW-1. -/
theorem test_and_BW_1 :
    after (start 0x0010 [0x10, 0x10, 0x11] [(0, .w8, 0xF0), (1, .w8, 0x3C)] []) (fun t => [(t.gread 0 .w8).toNat, (t.gread 1 .w8).toNat, t.pc.toNat]) =
      some [0x30, 0x3C, 0x0013] := by decide
/-- V-BW-2. -/
theorem test_or_BW_2 :
    after (start 0x0010 [0x11, 0x10, 0x11] [(0, .w8, 0xF0), (1, .w8, 0x3C)] []) (fun t => [(t.gread 0 .w8).toNat, t.pc.toNat]) =
      some [0xFC, 0x0013] := by decide
/-- V-BW-6. -/
theorem test_or_BW_6 :
    after (start 0x0010 [0x11, 0x00, 0x11] [(1, .w8, 0xFF)] []) (fun t => [(t.gread 1 .w8).toNat, t.pc.toNat]) =
      some [0xFF, 0x0013] := by decide
/-- V-BW-3. -/
theorem test_xor_BW_3 :
    after (start 0x0010 [0x12, 0x10, 0x11] [(0, .w8, 0xF0), (1, .w8, 0x3C)] []) (fun t => [(t.gread 0 .w8).toNat, t.pc.toNat]) =
      some [0xCC, 0x0013] := by decide
/-- V-BW-8. -/
theorem test_not_BW_8 :
    after (start 0x0010 [0x13, 0x13] [(3, .w8, 0xA5)] []) (fun t => [(t.gread 3 .w8).toNat, t.pc.toNat]) =
      some [0x5A, 0x0012] := by decide
/-- V-BW-9. -/
theorem test_andi_BW_9 :
    after (start 0x0010 [0x14, 0x10, 0x0F] [(0, .w8, 0xA5)] []) (fun t => [(t.gread 0 .w8).toNat, t.pc.toNat]) =
      some [0x05, 0x0013] := by decide
/-- V-BW-10. -/
theorem test_ori_BW_10 :
    after (start 0x0010 [0x15, 0x10, 0x0F] [(0, .w8, 0xA0)] []) (fun t => [(t.gread 0 .w8).toNat, t.pc.toNat]) =
      some [0xAF, 0x0013] := by decide
/-- V-BW-11. -/
theorem test_xori_BW_11 :
    after (start 0x0010 [0x16, 0x10, 0xFF] [(0, .w8, 0xA5)] []) (fun t => [(t.gread 0 .w8).toNat, t.pc.toNat]) =
      some [0x5A, 0x0013] := by decide
/-- V-BW-12. -/
theorem test_shl_BW_12 :
    after (start 0x0010 [0x18, 0x10, 0x01] [(0, .w8, 0x81)] []) (fun t => [(t.gread 0 .w8).toNat, t.pc.toNat]) =
      some [0x02, 0x0013] := by decide
/-- V-BW-15. -/
theorem test_shl_BW_15 :
    after (start 0x0010 [0x18, 0x10, 0x08] [(0, .w8, 0xFF)] []) (fun t => [(t.gread 0 .w8).toNat, t.pc.toNat]) =
      some [0x00, 0x0013] := by decide
/-- V-BW-19. -/
theorem test_shr_BW_19 :
    after (start 0x0010 [0x19, 0x10, 0x08] [(0, .w8, 0xFF)] []) (fun t => [(t.gread 0 .w8).toNat, t.pc.toNat]) =
      some [0x00, 0x0013] := by decide
/-- V-LI-1. -/
theorem test_li8_LI_1 :
    after (start 0x0010 [0x20, 0x10, 0xFF] [] []) (fun t => [(t.gread 0 .w8).toNat, t.pc.toNat]) =
      some [0xFF, 0x0013] := by decide
/-- V-LI-7. -/
theorem test_li8_LI_7 :
    after (start 0x0010 [0x20, 0x02, 0x80] [] []) (fun t => [t.mem.toNat, t.pc.toNat]) =
      some [0xFF80, 0x0013] := by decide
/-- V-LI-2. -/
theorem test_li16_LI_2 :
    after (start 0x0010 [0x21, 0x10, 0x34, 0x12] [] []) (fun t => [(t.gread 0 .w16).toNat, (t.gread 0 .w8).toNat, (t.gread 1 .w8).toNat, t.pc.toNat]) =
      some [0x1234, 0x34, 0x12, 0x0014] := by decide
/-- V-LI-15. -/
theorem test_li16_LI_15 :
    after (start 0x0010 [0x21, 0x11, 0x34, 0x12] [] []) (fun t => [(t.gread 1 .w8).toNat, (t.gread 2 .w8).toNat, t.pc.toNat]) =
      some [0x00, 0x00, 0x0014] := by decide
/-- V-LI-3. -/
theorem test_li32_LI_3 :
    after (start 0x0010 [0x22, 0x14, 0xEF, 0xBE, 0xAD, 0xDE] [] []) (fun t => [(t.gread 4 .w8).toNat, (t.gread 5 .w8).toNat, (t.gread 6 .w8).toNat, (t.gread 7 .w8).toNat, t.pc.toNat]) =
      some [0xEF, 0xBE, 0xAD, 0xDE, 0x0016] := by decide
/-- V-LI-12. -/
theorem test_li32_LI_12 :
    after (start 0x0010 [0x22, 0x02, 0x78, 0x56, 0x34, 0x12] [] []) (fun t => [t.mem.toNat, t.pc.toNat]) =
      some [0x5678, 0x0016] := by decide
/-- V-LI-4. -/
theorem test_lui8_LI_4 :
    after (start 0x0010 [0x24, 0x19, 0x80] [] []) (fun t => [(t.gread 9 .w8).toNat, t.pc.toNat]) =
      some [0x80, 0x0013] := by decide
/-- V-LI-9. -/
theorem test_lui8_LI_9 :
    after (start 0x0010 [0x24, 0x02, 0x80] [] []) (fun t => [t.mem.toNat, t.pc.toNat]) =
      some [0x0080, 0x0013] := by decide
/-- V-LI-5. -/
theorem test_lui16_LI_5 :
    after (start 0x0010 [0x25, 0x1E, 0xFF, 0xFF] [] []) (fun t => [(t.gread 14 .w16).toNat, t.pc.toNat]) =
      some [0xFFFF, 0x0014] := by decide
/-- V-LI-11. -/
theorem test_lui16_LI_11 :
    after (start 0x0010 [0x25, 0x02, 0x00, 0x90] [] []) (fun t => [t.mem.toNat, t.pc.toNat]) =
      some [0x9000, 0x0014] := by decide
/-- V-LI-6. -/
theorem test_lui32_LI_6 :
    after (start 0x0010 [0x26, 0x1C, 0x00, 0x00, 0x00, 0x80] [] []) (fun t => [(t.gread 12 .w32).toNat, t.pc.toNat]) =
      some [0x80000000, 0x0016] := by decide
/-- V-LI-13. -/
theorem test_lui32_LI_13 :
    after (start 0x0010 [0x26, 0x02, 0x00, 0x80, 0xFF, 0xFF] [] []) (fun t => [t.mem.toNat, t.pc.toNat]) =
      some [0x8000, 0x0016] := by decide
/-- V-LS-1. -/
theorem test_lm8_LS_1 :
    after { start 0x0010 [0x30, 0x10] [] [(0x0100, [0x11, 0x22, 0x33, 0x44, 0x55])] with mem := 0x0100 } (fun t => [(t.gread 0 .w8).toNat, t.mem.toNat, t.pc.toNat]) =
      some [0x11, 0x0100, 0x0012] := by decide
/-- V-LS-5. -/
theorem test_lm8_LS_5 :
    after { start 0x0010 [0x30, 0x10] [] [] with mem := 0x0010 } (fun t => [(t.gread 0 .w8).toNat, t.pc.toNat]) =
      some [0x30, 0x0012] := by decide
/-- V-LS-3. -/
theorem test_lm16_LS_3 :
    after { start 0x0010 [0x31, 0x10] [] [(0x0100, [0x11, 0x22, 0x33, 0x44, 0x55])] with mem := 0x0101 } (fun t => [(t.gread 0 .w16).toNat, t.pc.toNat]) =
      some [0x3322, 0x0012] := by decide
/-- V-LS-8. -/
theorem test_lm16_LS_8 :
    after { start 0x0010 [0x31, 0x10] [(0, .w16, 0xEEEE)] [] with mem := 0xFFFF } (fun t => [(t.gread 0 .w16).toNat, t.pc.toNat]) =
      some [0x0000, 0x0012] := by decide
/-- V-LS-4. -/
theorem test_lm32_LS_4 :
    after { start 0x0010 [0x32, 0x14] [] [(0x0100, [0x11, 0x22, 0x33, 0x44, 0x55])] with mem := 0x0101 } (fun t => [(t.gread 4 .w32).toNat, t.pc.toNat]) =
      some [0x55443322, 0x0012] := by decide
/-- V-LS-6. -/
theorem test_lm32_LS_6 :
    after { start 0x0010 [0x32, 0x10] [] [(0x98CE, [0xAA, 0xBB])] with mem := 0x98CE } (fun t => [(t.gread 0 .w32).toNat, t.pc.toNat]) =
      some [0x0000BBAA, 0x0012] := by decide
/-- V-LS-14. -/
theorem test_sm8_LS_14 :
    after { start 0x0010 [0x34, 0x10] [(0, .w8, 0xAB)] [] with mem := 0x98D0 } (fun t => [(t.byteAt 0x98CC).toNat, (t.byteAt 0x98CD).toNat, (t.byteAt 0x98CE).toNat, (t.byteAt 0x98CF).toNat, t.pc.toNat]) =
      some [0x00, 0x00, 0x00, 0x00, 0x0012] := by decide
/-- V-LS-15. -/
theorem test_sm8_LS_15 :
    after { start 0x0010 [0x34, 0x10] [(0, .w8, 0x1F)] [] with mem := 0x0011 } (fun t => [(t.byteAt 0x0010).toNat, (t.byteAt 0x0011).toNat, t.pc.toNat]) =
      some [0x34, 0x1F, 0x0012] := by decide
/-- V-LS-10. -/
theorem test_sm16_LS_10 :
    after { start 0x0010 [0x35, 0x10] [(0, .w16, 0xBEEF)] [] with mem := 0x0101 } (fun t => [(t.byteAt 0x0100).toNat, (t.byteAt 0x0101).toNat, (t.byteAt 0x0102).toNat, (t.byteAt 0x0103).toNat, t.pc.toNat]) =
      some [0x00, 0xEF, 0xBE, 0x00, 0x0012] := by decide
/-- V-LS-19. -/
theorem test_sm16_LS_19 :
    after { start 0x0010 [0x35, 0x13] [(3, .w8, 0xAA), (4, .w8, 0xBB)] [] with mem := 0x0100 } (fun t => [(t.byteAt 0x0100).toNat, (t.byteAt 0x0101).toNat, t.pc.toNat]) =
      some [0x00, 0x00, 0x0012] := by decide
/-- V-LS-11. -/
theorem test_sm32_LS_11 :
    after { start 0x0010 [0x36, 0x10] [(0, .w32, 0x44332211)] [] with mem := 0x0100 } (fun t => [(t.byteAt 0x0100).toNat, (t.byteAt 0x0101).toNat, (t.byteAt 0x0102).toNat, (t.byteAt 0x0103).toNat, t.pc.toNat]) =
      some [0x11, 0x22, 0x33, 0x44, 0x0012] := by decide
/-- V-LS-13. -/
theorem test_sm32_LS_13 :
    after { start 0x0010 [0x36, 0x10] [(0, .w32, 0x44332211)] [] with mem := 0x98CE } (fun t => [(t.byteAt 0x98CE).toNat, (t.byteAt 0x98CF).toNat, t.pc.toNat]) =
      some [0x11, 0x22, 0x0012] := by decide
/-- V-MV-1. -/
theorem test_mov8_MV_1 :
    after (start 0x0010 [0x38, 0x11, 0x10] [(0, .w8, 0x5A)] []) (fun t => [(t.gread 1 .w8).toNat, (t.gread 0 .w8).toNat, t.pc.toNat]) =
      some [0x5A, 0x5A, 0x0013] := by decide
/-- V-MV-10. -/
theorem test_mov8_MV_10 :
    after (start 0x0010 [0x38, 0x10, 0x01] [(0, .w8, 0x5A)] []) (fun t => [(t.gread 0 .w8).toNat, t.pc.toNat]) =
      some [0x5A, 0x0013] := by decide
/-- V-MV-6. -/
theorem test_mov16_MV_6 :
    after (start 0x98CE [0x39, 0x10, 0x01] [] []) (fun t => [(t.gread 0 .w16).toNat, t.pc.toNat]) =
      some [0x0000, 0x0001] := by decide
/-- V-MV-12. -/
theorem test_mov16_MV_12 :
    after (start 0x0010 [0x39, 0x02, 0x10] [(0, .w16, 0x1234)] []) (fun t => [t.mem.toNat, t.pc.toNat]) =
      some [0x0000, 0x0013] := by decide
/-- V-MV-4. -/
theorem test_mov32_MV_4 :
    after (start 0x0010 [0x3A, 0x14, 0x10] [(0, .w32, 0x44332211)] []) (fun t => [(t.gread 4 .w32).toNat, t.pc.toNat]) =
      some [0x44332211, 0x0013] := by decide
/-- V-MV-11. -/
theorem test_mov32_MV_11 :
    after { start 0x0010 [0x3A, 0x10, 0x02] [(0, .w32, 0x5A5A5A5A)] [] with mem := 0xABCD } (fun t => [(t.gread 0 .w32).toNat, t.pc.toNat]) =
      some [0x5A5A5A5A, 0x0013] := by decide
/-- V-AR-1. -/
theorem test_add8_AR_1 :
    after (start 0x0010 [0x40, 0x10, 0x10, 0x10] [(0, .w8, 0xC8)] []) (fun t => [(t.gread 0 .w8).toNat, t.pc.toNat]) =
      some [0x90, 0x0014] := by decide
/-- V-AR-47. -/
theorem test_add8_AR_47 :
    after (start 0x0010 [0x40, 0x10, 0x10, 0x20] [(0, .w8, 0x01)] []) (fun t => [(t.gread 0 .w8).toNat, t.pc.toNat]) =
      some [0x01, 0x0014] := by decide
/-- V-AR-6. -/
theorem test_add16_AR_6 :
    after (start 0x0010 [0x41, 0x10, 0x10, 0x12] [(0, .w16, 0x00FF), (2, .w16, 0x0001)] []) (fun t => [(t.gread 0 .w16).toNat, (t.gread 0 .w8).toNat, (t.gread 1 .w8).toNat, t.pc.toNat]) =
      some [0x0100, 0x00, 0x01, 0x0014] := by decide
/-- V-AR-45. -/
theorem test_add16_AR_45 :
    after (start 0x0010 [0x41, 0x02, 0x10, 0x10] [(0, .w16, 0x0101)] []) (fun t => [t.mem.toNat, t.pc.toNat]) =
      some [0x0000, 0x0014] := by decide
/-- V-AR-8. -/
theorem test_add32_AR_8 :
    after (start 0x0010 [0x42, 0x10, 0x10, 0x14] [(0, .w32, 0xFFFFFFFF), (4, .w32, 0x00000001)] []) (fun t => [(t.gread 0 .w32).toNat, t.pc.toNat]) =
      some [0x00000000, 0x0014] := by decide
/-- V-AR-43. -/
theorem test_add32_AR_43 :
    after (start 0x0010 [0x42, 0x12, 0x14, 0x14] [(4, .w32, 0x00000001)] []) (fun t => [(t.gread 2 .w8).toNat, (t.gread 3 .w8).toNat, t.pc.toNat]) =
      some [0x00, 0x00, 0x0014] := by decide
/-- V-AR-9. -/
theorem test_addi8_AR_9 :
    after (start 0x0010 [0x44, 0x10, 0x10, 0xFF] [(0, .w8, 0x05)] []) (fun t => [(t.gread 0 .w8).toNat, t.pc.toNat]) =
      some [0x04, 0x0014] := by decide
/-- V-AR-10. -/
theorem test_addi16_AR_10 :
    after (start 0x0010 [0x45, 0x12, 0x10, 0x34, 0x12] [(0, .w16, 0xF000)] []) (fun t => [(t.gread 2 .w16).toNat, t.pc.toNat]) =
      some [0x0234, 0x0015] := by decide
/-- V-AR-48. -/
theorem test_addi32_AR_48 :
    after (start 0x0010 [0x46, 0x1D, 0x00, 0x44, 0x33, 0x22, 0x11] [] []) (fun t => [(t.gread 13 .w8).toNat, (t.gread 14 .w8).toNat, (t.gread 15 .w8).toNat, t.pc.toNat]) =
      some [0x00, 0x00, 0x00, 0x0017] := by decide
/-- V-AR-4. -/
theorem test_addu8_AR_4 :
    after (start 0x0010 [0x48, 0x12, 0x10, 0x11] [(0, .w8, 0xFF), (1, .w8, 0x01)] []) (fun t => [(t.gread 2 .w8).toNat, t.pc.toNat]) =
      some [0x00, 0x0014] := by decide
/-- V-AX-8. -/
theorem test_addu16_AX_8 :
    after (start 0x0010 [0x49, 0x18, 0x10, 0x14] [(0, .w16, 0xFFF9), (4, .w16, 0xFFFE)] []) (fun t => [(t.gread 8 .w16).toNat, t.pc.toNat]) =
      some [0xFFF7, 0x0014] := by decide
/-- V-AX-9. -/
theorem test_addu32_AX_9 :
    after (start 0x0010 [0x4A, 0x18, 0x10, 0x14] [(0, .w32, 0xFFFFFFF9), (4, .w32, 0xFFFFFFFE)] []) (fun t => [(t.gread 8 .w32).toNat, t.pc.toNat]) =
      some [0xFFFFFFF7, 0x0014] := by decide
/-- V-AX-10. -/
theorem test_addui8_AX_10 :
    after (start 0x0010 [0x4C, 0x18, 0x10, 0xFE] [(0, .w8, 0xF9)] []) (fun t => [(t.gread 8 .w8).toNat, t.pc.toNat]) =
      some [0xF7, 0x0014] := by decide
/-- V-AX-11. -/
theorem test_addui16_AX_11 :
    after (start 0x0010 [0x4D, 0x18, 0x10, 0xFE, 0xFF] [(0, .w16, 0xFFF9)] []) (fun t => [(t.gread 8 .w16).toNat, t.pc.toNat]) =
      some [0xFFF7, 0x0015] := by decide
/-- V-AR-11. -/
theorem test_addui32_AR_11 :
    after (start 0x0010 [0x4E, 0x14, 0x00, 0xEF, 0xBE, 0xAD, 0xDE] [] []) (fun t => [(t.gread 4 .w32).toNat, (t.gread 4 .w8).toNat, (t.gread 7 .w8).toNat, t.pc.toNat]) =
      some [0xDEADBEEF, 0xEF, 0xDE, 0x0017] := by decide
/-- V-AR-12. -/
theorem test_sub8_AR_12 :
    after (start 0x0010 [0x50, 0x12, 0x10, 0x11] [(0, .w8, 0x00), (1, .w8, 0x01)] []) (fun t => [(t.gread 2 .w8).toNat, t.pc.toNat]) =
      some [0xFF, 0x0014] := by decide
/-- V-AX-14. -/
theorem test_sub16_AX_14 :
    after (start 0x0010 [0x51, 0x18, 0x10, 0x14] [(0, .w16, 0xFFF9), (4, .w16, 0xFFFE)] []) (fun t => [(t.gread 8 .w16).toNat, t.pc.toNat]) =
      some [0xFFFB, 0x0014] := by decide
/-- V-AR-16. -/
theorem test_sub32_AR_16 :
    after (start 0x0010 [0x52, 0x10, 0x00, 0x14] [(4, .w32, 0x00000001)] []) (fun t => [(t.gread 0 .w32).toNat, t.pc.toNat]) =
      some [0xFFFFFFFF, 0x0014] := by decide
/-- V-AR-15. -/
theorem test_subi8_AR_15 :
    after (start 0x0010 [0x54, 0x11, 0x11, 0x01] [(1, .w8, 0x0A)] []) (fun t => [(t.gread 1 .w8).toNat, t.pc.toNat]) =
      some [0x09, 0x0014] := by decide
/-- V-AX-17. -/
theorem test_subi16_AX_17 :
    after (start 0x0010 [0x55, 0x18, 0x10, 0xFE, 0xFF] [(0, .w16, 0xFFF9)] []) (fun t => [(t.gread 8 .w16).toNat, t.pc.toNat]) =
      some [0xFFFB, 0x0015] := by decide
/-- V-AX-18. -/
theorem test_subi32_AX_18 :
    after (start 0x0010 [0x56, 0x18, 0x10, 0xFE, 0xFF, 0xFF, 0xFF] [(0, .w32, 0xFFFFFFF9)] []) (fun t => [(t.gread 8 .w32).toNat, t.pc.toNat]) =
      some [0xFFFFFFFB, 0x0017] := by decide
/-- V-AX-19. -/
theorem test_subu8_AX_19 :
    after (start 0x0010 [0x58, 0x18, 0x10, 0x14] [(0, .w8, 0xF9), (4, .w8, 0xFE)] []) (fun t => [(t.gread 8 .w8).toNat, t.pc.toNat]) =
      some [0xFB, 0x0014] := by decide
/-- V-AR-14. -/
theorem test_subu16_AR_14 :
    after (start 0x0010 [0x59, 0x10, 0x10, 0x12] [(0, .w16, 0x0000), (2, .w16, 0x0001)] []) (fun t => [(t.gread 0 .w16).toNat, t.pc.toNat]) =
      some [0xFFFF, 0x0014] := by decide
/-- V-AX-21. -/
theorem test_subu32_AX_21 :
    after (start 0x0010 [0x5A, 0x18, 0x10, 0x14] [(0, .w32, 0xFFFFFFF9), (4, .w32, 0xFFFFFFFE)] []) (fun t => [(t.gread 8 .w32).toNat, t.pc.toNat]) =
      some [0xFFFFFFFB, 0x0014] := by decide
/-- V-AX-22. -/
theorem test_subui8_AX_22 :
    after (start 0x0010 [0x5C, 0x18, 0x10, 0xFE] [(0, .w8, 0xF9)] []) (fun t => [(t.gread 8 .w8).toNat, t.pc.toNat]) =
      some [0xFB, 0x0014] := by decide
/-- V-AX-23. -/
theorem test_subui16_AX_23 :
    after (start 0x0010 [0x5D, 0x18, 0x10, 0xFE, 0xFF] [(0, .w16, 0xFFF9)] []) (fun t => [(t.gread 8 .w16).toNat, t.pc.toNat]) =
      some [0xFFFB, 0x0015] := by decide
/-- V-AX-24. -/
theorem test_subui32_AX_24 :
    after (start 0x0010 [0x5E, 0x18, 0x10, 0xFE, 0xFF, 0xFF, 0xFF] [(0, .w32, 0xFFFFFFF9)] []) (fun t => [(t.gread 8 .w32).toNat, t.pc.toNat]) =
      some [0xFFFFFFFB, 0x0017] := by decide
/-- V-AR-18. -/
theorem test_mul8_AR_18 :
    after (start 0x0010 [0x60, 0x12, 0x10, 0x11] [(0, .w8, 0xFF), (1, .w8, 0xFF)] []) (fun t => [(t.gread 2 .w8).toNat, t.pc.toNat]) =
      some [0x01, 0x0014] := by decide
/-- V-AX-26. -/
theorem test_mul16_AX_26 :
    after (start 0x0010 [0x61, 0x18, 0x10, 0x14] [(0, .w16, 0xFFF9), (4, .w16, 0xFFFE)] []) (fun t => [(t.gread 8 .w16).toNat, t.pc.toNat]) =
      some [0x000E, 0x0014] := by decide
/-- V-AR-24. -/
theorem test_mul32_AR_24 :
    after (start 0x0010 [0x62, 0x18, 0x10, 0x14] [(0, .w32, 0x12345678), (4, .w32, 0x9ABCDEF0)] []) (fun t => [(t.gread 8 .w32).toNat, t.pc.toNat]) =
      some [0x242D2080, 0x0014] := by decide
/-- V-AX-28. -/
theorem test_muli8_AX_28 :
    after (start 0x0010 [0x64, 0x18, 0x10, 0xFE] [(0, .w8, 0xF9)] []) (fun t => [(t.gread 8 .w8).toNat, t.pc.toNat]) =
      some [0x0E, 0x0014] := by decide
/-- V-AX-29. -/
theorem test_muli16_AX_29 :
    after (start 0x0010 [0x65, 0x18, 0x10, 0xFE, 0xFF] [(0, .w16, 0xFFF9)] []) (fun t => [(t.gread 8 .w16).toNat, t.pc.toNat]) =
      some [0x000E, 0x0015] := by decide
/-- V-AX-30. -/
theorem test_muli32_AX_30 :
    after (start 0x0010 [0x66, 0x18, 0x10, 0xFE, 0xFF, 0xFF, 0xFF] [(0, .w32, 0xFFFFFFF9)] []) (fun t => [(t.gread 8 .w32).toNat, t.pc.toNat]) =
      some [0x0000000E, 0x0017] := by decide
/-- V-AX-31. -/
theorem test_mulu8_AX_31 :
    after (start 0x0010 [0x68, 0x18, 0x10, 0x14] [(0, .w8, 0xF9), (4, .w8, 0xFE)] []) (fun t => [(t.gread 8 .w8).toNat, t.pc.toNat]) =
      some [0x0E, 0x0014] := by decide
/-- V-AX-32. -/
theorem test_mulu16_AX_32 :
    after (start 0x0010 [0x69, 0x18, 0x10, 0x14] [(0, .w16, 0xFFF9), (4, .w16, 0xFFFE)] []) (fun t => [(t.gread 8 .w16).toNat, t.pc.toNat]) =
      some [0x000E, 0x0014] := by decide
/-- V-AX-33. -/
theorem test_mulu32_AX_33 :
    after (start 0x0010 [0x6A, 0x18, 0x10, 0x14] [(0, .w32, 0xFFFFFFF9), (4, .w32, 0xFFFFFFFE)] []) (fun t => [(t.gread 8 .w32).toNat, t.pc.toNat]) =
      some [0x0000000E, 0x0014] := by decide
/-- V-AX-34. -/
theorem test_mului8_AX_34 :
    after (start 0x0010 [0x6C, 0x18, 0x10, 0xFE] [(0, .w8, 0xF9)] []) (fun t => [(t.gread 8 .w8).toNat, t.pc.toNat]) =
      some [0x0E, 0x0014] := by decide
/-- V-AR-21. -/
theorem test_mului16_AR_21 :
    after (start 0x0010 [0x6D, 0x12, 0x10, 0x03, 0x00] [(0, .w16, 0x0403)] []) (fun t => [(t.gread 2 .w16).toNat, t.pc.toNat]) =
      some [0x0C09, 0x0015] := by decide
/-- V-AX-36. -/
theorem test_mului32_AX_36 :
    after (start 0x0010 [0x6E, 0x18, 0x10, 0xFE, 0xFF, 0xFF, 0xFF] [(0, .w32, 0xFFFFFFF9)] []) (fun t => [(t.gread 8 .w32).toNat, t.pc.toNat]) =
      some [0x0000000E, 0x0017] := by decide
/-- V-AR-26. -/
theorem test_div8_AR_26 :
    after (start 0x0010 [0x70, 0x12, 0x10, 0x11] [(0, .w8, 0xF9), (1, .w8, 0x02)] []) (fun t => [(t.gread 2 .w8).toNat, t.pc.toNat]) =
      some [0xFD, 0x0014] := by decide
/-- V-AR-31. -/
theorem test_div8_AR_31 :
    after (start 0x0010 [0x70, 0x12, 0x10, 0x11] [(0, .w8, 0x80), (1, .w8, 0xFF)] []) (fun t => [(t.gread 2 .w8).toNat, t.pc.toNat]) =
      some [0x80, 0x0014] := by decide
/-- V-AR-32. -/
theorem test_div16_AR_32 :
    after (start 0x0010 [0x71, 0x14, 0x10, 0x12] [(0, .w16, 0x8000), (2, .w16, 0xFFFF)] []) (fun t => [(t.gread 4 .w16).toNat, t.pc.toNat]) =
      some [0x8000, 0x0014] := by decide
/-- V-AR-33. -/
theorem test_div32_AR_33 :
    after (start 0x0010 [0x72, 0x18, 0x10, 0x14] [(0, .w32, 0x80000000), (4, .w32, 0xFFFFFFFF)] []) (fun t => [(t.gread 8 .w32).toNat, t.pc.toNat]) =
      some [0x80000000, 0x0014] := by decide
/-- V-AR-38. -/
theorem test_div32_AR_38 :
    after (start 0x0010 [0x72, 0x18, 0x10, 0x14] [(0, .w32, 0xFFFFFFF9), (4, .w32, 0x00000002)] []) (fun t => [(t.gread 8 .w32).toNat, t.pc.toNat]) =
      some [0xFFFFFFFD, 0x0014] := by decide
/-- V-AR-36. -/
theorem test_divi8_AR_36 :
    after (start 0x0010 [0x74, 0x12, 0x10, 0xFE] [(0, .w8, 0x07)] []) (fun t => [(t.gread 2 .w8).toNat, t.pc.toNat]) =
      some [0xFD, 0x0014] := by decide
/-- V-AX-41. -/
theorem test_divi16_AX_41 :
    after (start 0x0010 [0x75, 0x18, 0x10, 0xFE, 0xFF] [(0, .w16, 0xFFF9)] []) (fun t => [(t.gread 8 .w16).toNat, t.pc.toNat]) =
      some [0x0003, 0x0015] := by decide
/-- V-AX-42. -/
theorem test_divi32_AX_42 :
    after (start 0x0010 [0x76, 0x18, 0x10, 0xFE, 0xFF, 0xFF, 0xFF] [(0, .w32, 0xFFFFFFF9)] []) (fun t => [(t.gread 8 .w32).toNat, t.pc.toNat]) =
      some [0x00000003, 0x0017] := by decide
/-- V-AR-29. -/
theorem test_divu8_AR_29 :
    after (start 0x0010 [0x78, 0x12, 0x10, 0x11] [(0, .w8, 0xF9), (1, .w8, 0x02)] []) (fun t => [(t.gread 2 .w8).toNat, t.pc.toNat]) =
      some [0x7C, 0x0014] := by decide
/-- V-AX-44. -/
theorem test_divu16_AX_44 :
    after (start 0x0010 [0x79, 0x18, 0x10, 0x14] [(0, .w16, 0xFFF9), (4, .w16, 0xFFFE)] []) (fun t => [(t.gread 8 .w16).toNat, t.pc.toNat]) =
      some [0x0000, 0x0014] := by decide
/-- V-AR-39. -/
theorem test_divu32_AR_39 :
    after (start 0x0010 [0x7A, 0x18, 0x10, 0x14] [(0, .w32, 0xFFFFFFFF), (4, .w32, 0x00000002)] []) (fun t => [(t.gread 8 .w32).toNat, t.pc.toNat]) =
      some [0x7FFFFFFF, 0x0014] := by decide
/-- V-AR-37. -/
theorem test_divui8_AR_37 :
    after (start 0x0010 [0x7C, 0x12, 0x10, 0xFE] [(0, .w8, 0x07)] []) (fun t => [(t.gread 2 .w8).toNat, t.pc.toNat]) =
      some [0x00, 0x0014] := by decide
/-- V-AR-40. -/
theorem test_divui16_AR_40 :
    after (start 0x0010 [0x7D, 0x10, 0x10, 0x0A, 0x00] [(0, .w16, 0x03E8)] []) (fun t => [(t.gread 0 .w16).toNat, t.pc.toNat]) =
      some [0x0064, 0x0015] := by decide
/-- V-AX-48. -/
theorem test_divui32_AX_48 :
    after (start 0x0010 [0x7E, 0x18, 0x10, 0xFE, 0xFF, 0xFF, 0xFF] [(0, .w32, 0xFFFFFFF9)] []) (fun t => [(t.gread 8 .w32).toNat, t.pc.toNat]) =
      some [0x00000000, 0x0017] := by decide
/-- V-BR-1. -/
theorem test_beq8_BR_1 :
    after (start 0x0010 [0x80, 0x10, 0x11, 0x40, 0x00] [(0, .w8, 0x05), (1, .w8, 0x05)] []) (fun t => [t.pc.toNat]) =
      some [0x0040] := by decide
/-- V-BR-20. -/
theorem test_beq8_BR_20 :
    after (start 0x0010 [0x80, 0x00, 0x00, 0xFF, 0xFF] [] []) (fun t => [t.pc.toNat]) =
      some [0x672F] := by decide
/-- V-BR-18. -/
theorem test_beq16_BR_18 :
    after (start 0x0010 [0x81, 0x10, 0x10, 0x00, 0x00] [] []) (fun t => [t.pc.toNat]) =
      some [0x0000] := by decide
/-- V-BR-24. -/
theorem test_beq16_BR_24 :
    after (start 0x0010 [0x81, 0x11, 0x11, 0x40, 0x00] [] []) (fun t => [t.pc.toNat]) =
      some [0x0015] := by decide
/-- V-BX-3. -/
theorem test_beq32_BX_3 :
    after (start 0x0010 [0x82, 0x10, 0x14, 0x40, 0x00] [(0, .w32, 0x80000000), (4, .w32, 0x7FFFFFFF)] []) (fun t => [t.pc.toNat]) =
      some [0x0015] := by decide
/-- V-BR-5. -/
theorem test_blt8_BR_5 :
    after (start 0x0010 [0x84, 0x10, 0x11, 0x40, 0x00] [(0, .w8, 0xFF), (1, .w8, 0x01)] []) (fun t => [t.pc.toNat]) =
      some [0x0015] := by decide
/-- V-BR-7. -/
theorem test_blt8_BR_7 :
    after (start 0x0010 [0x84, 0x10, 0x11, 0x40, 0x00] [(0, .w8, 0x01), (1, .w8, 0xFF)] []) (fun t => [t.pc.toNat]) =
      some [0x0040] := by decide
/-- V-BR-14. -/
theorem test_blt16_BR_14 :
    after (start 0x0010 [0x85, 0x10, 0x12, 0x40, 0x00] [(0, .w16, 0x00FF), (2, .w16, 0x0100)] []) (fun t => [t.pc.toNat]) =
      some [0x0040] := by decide
/-- V-BR-15. -/
theorem test_blt16_BR_15 :
    after (start 0x0010 [0x85, 0x10, 0x12, 0x40, 0x00] [(0, .w16, 0x0100), (2, .w16, 0x00FF)] []) (fun t => [t.pc.toNat]) =
      some [0x0015] := by decide
/-- V-BX-6. -/
theorem test_blt32_BX_6 :
    after (start 0x0010 [0x86, 0x10, 0x14, 0x40, 0x00] [(0, .w32, 0x80000000), (4, .w32, 0x7FFFFFFF)] []) (fun t => [t.pc.toNat]) =
      some [0x0015] := by decide
/-- V-BR-8. -/
theorem test_ble8_BR_8 :
    after (start 0x0010 [0x88, 0x10, 0x11, 0x40, 0x00] [(0, .w8, 0x07), (1, .w8, 0x07)] []) (fun t => [t.pc.toNat]) =
      some [0x0040] := by decide
/-- V-BX-8. -/
theorem test_ble16_BX_8 :
    after (start 0x0010 [0x89, 0x10, 0x14, 0x40, 0x00] [(0, .w16, 0x8000), (4, .w16, 0x7FFF)] []) (fun t => [t.pc.toNat]) =
      some [0x0015] := by decide
/-- V-BX-9. -/
theorem test_ble32_BX_9 :
    after (start 0x0010 [0x8A, 0x10, 0x14, 0x40, 0x00] [(0, .w32, 0x80000000), (4, .w32, 0x7FFFFFFF)] []) (fun t => [t.pc.toNat]) =
      some [0x0015] := by decide
/-- V-BR-6. -/
theorem test_bgt8_BR_6 :
    after (start 0x0010 [0x8C, 0x10, 0x11, 0x40, 0x00] [(0, .w8, 0xFF), (1, .w8, 0x01)] []) (fun t => [t.pc.toNat]) =
      some [0x0040] := by decide
/-- V-BR-10. -/
theorem test_bgt8_BR_10 :
    after (start 0x0010 [0x8C, 0x10, 0x11, 0x40, 0x00] [(0, .w8, 0x07), (1, .w8, 0x07)] []) (fun t => [t.pc.toNat]) =
      some [0x0015] := by decide
/-- V-BX-11. -/
theorem test_bgt16_BX_11 :
    after (start 0x0010 [0x8D, 0x10, 0x14, 0x40, 0x00] [(0, .w16, 0x8000), (4, .w16, 0x7FFF)] []) (fun t => [t.pc.toNat]) =
      some [0x0040] := by decide
/-- V-BR-16. -/
theorem test_bgt32_BR_16 :
    after (start 0x0010 [0x8E, 0x10, 0x14, 0x40, 0x00] [(0, .w32, 0x80000000), (4, .w32, 0x7FFFFFFF)] []) (fun t => [t.pc.toNat]) =
      some [0x0040] := by decide
/-- V-BR-9. -/
theorem test_bge8_BR_9 :
    after (start 0x0010 [0x90, 0x10, 0x11, 0x40, 0x00] [(0, .w8, 0x07), (1, .w8, 0x07)] []) (fun t => [t.pc.toNat]) =
      some [0x0040] := by decide
/-- V-BX-14. -/
theorem test_bge16_BX_14 :
    after (start 0x0010 [0x91, 0x10, 0x14, 0x40, 0x00] [(0, .w16, 0x8000), (4, .w16, 0x7FFF)] []) (fun t => [t.pc.toNat]) =
      some [0x0040] := by decide
/-- V-BX-15. -/
theorem test_bge32_BX_15 :
    after (start 0x0010 [0x92, 0x10, 0x14, 0x40, 0x00] [(0, .w32, 0x80000000), (4, .w32, 0x7FFFFFFF)] []) (fun t => [t.pc.toNat]) =
      some [0x0040] := by decide
/-- V-BR-23. -/
theorem test_bne8_BR_23 :
    after (start 0x98CD [0x94, 0x00, 0x00, 0x40, 0x00] [] []) (fun t => [t.pc.toNat]) =
      some [0x0002] := by decide
/-- V-BR-27. -/
theorem test_bne8_BR_27 :
    after { start 0x0010 [0x94, 0x10, 0x10, 0x40, 0x00] [] [] with ilatch := 0x0400 } (fun t => [t.int.toNat, t.ilatch.toNat, t.pc.toNat]) =
      some [0x0015, 0x0000, 0x0400] := by decide
/-- V-BX-17. -/
theorem test_bne16_BX_17 :
    after (start 0x0010 [0x95, 0x10, 0x14, 0x40, 0x00] [(0, .w16, 0x8000), (4, .w16, 0x7FFF)] []) (fun t => [t.pc.toNat]) =
      some [0x0040] := by decide
/-- V-BR-17. -/
theorem test_bne32_BR_17 :
    after (start 0x0010 [0x96, 0x10, 0x14, 0x40, 0x00] [(0, .w32, 0x01000000), (4, .w32, 0x00000000)] []) (fun t => [t.pc.toNat]) =
      some [0x0040] := by decide
/-- V-BK-2. -/
theorem test_mvm_BK_2 :
    after (start 0x0010 [0xA0, 0x00, 0x03, 0x02, 0x03, 0x04] [] [(0x0300, [0x01, 0x02, 0x03, 0x04, 0x05, 0x06])]) (fun t => [(t.byteAt 0x0300).toNat, (t.byteAt 0x0301).toNat, (t.byteAt 0x0302).toNat, (t.byteAt 0x0303).toNat, t.pc.toNat]) =
      some [0x01, 0x02, 0x01, 0x02, 0x0016] := by decide
/-- V-BK-5. -/
theorem test_mvm_BK_5 :
    after (start 0x0010 [0xA0, 0x00, 0x03, 0xCE, 0x98, 0x04] [] [(0x0300, [0x01, 0x02, 0x03, 0x04])]) (fun t => [(t.byteAt 0x98CE).toNat, (t.byteAt 0x98CF).toNat, t.pc.toNat]) =
      some [0x01, 0x02, 0x0016] := by decide
/-- V-BK-12. -/
theorem test_clm_BK_12 :
    after (start 0x0010 [0xA1, 0x00, 0x04, 0x04, 0xAA] [] []) (fun t => [(t.byteAt 0x0400).toNat, (t.byteAt 0x0401).toNat, (t.byteAt 0x0402).toNat, (t.byteAt 0x0403).toNat, t.pc.toNat]) =
      some [0xAA, 0xAA, 0xAA, 0xAA, 0x0015] := by decide
/-- V-BK-14. -/
theorem test_clm_BK_14 :
    after (start 0x0010 [0xA1, 0xCE, 0x98, 0x08, 0x55] [] []) (fun t => [(t.byteAt 0x98CE).toNat, (t.byteAt 0x98CF).toNat, t.pc.toNat]) =
      some [0x55, 0x55, 0x0015] := by decide
/-- V-JC-3. -/
theorem test_jmp_JC_3 :
    after (start 0x0010 [0xB0, 0xFF, 0xFF] [] []) (fun t => [t.pc.toNat]) =
      some [0x672F] := by decide
/-- V-JC-6. -/
theorem test_call_JC_6 :
    after { start 0x0010 [0xB1, 0x00, 0x01] [] [] with ret := 0x0777 } (fun t => [t.ret.toNat, t.pc.toNat]) =
      some [0x0013, 0x0100] := by decide
/-- V-JC-14. -/
theorem test_call_JC_14 :
    after { start 0x0010 [0xB1, 0x00, 0x01] [] [] with ilatch := 0x0400 } (fun t => [t.ret.toNat, t.int.toNat, t.ilatch.toNat, t.pc.toNat]) =
      some [0x0013, 0x0100, 0x0000, 0x0400] := by decide
/-- V-JC-8. -/
theorem test_ret_JC_8 :
    after { start 0x0100 [0xB2] [] [] with ret := 0x0013 } (fun t => [t.ret.toNat, t.pc.toNat]) =
      some [0x0000, 0x0013] := by decide
/-- V-JC-10. -/
theorem test_ret_JC_10 :
    after { start 0x0100 [0xB2] [] [] with ret := 0xFFFF } (fun t => [t.ret.toNat, t.pc.toNat]) =
      some [0x0000, 0x672F] := by decide
/-- V-JC-11. -/
theorem test_rint_JC_11 :
    after { start 0x0300 [0xB3] [] [] with int := 0x0213 } (fun t => [t.int.toNat, t.pc.toNat]) =
      some [0x0000, 0x0213] := by decide
/-- V-JC-12. -/
theorem test_rint_JC_12 :
    after { start 0x0300 [0xB3] [] [] with int := 0x0213, ilatch := 0x0400 } (fun t => [t.int.toNat, t.ilatch.toNat, t.pc.toNat]) =
      some [0x0213, 0x0000, 0x0400] := by decide
/-- V-NO-7. -/
theorem test_unknown_NO_7 :
    after { start 0x0010 [0xFF] [(0, .w8, 0x12)] [] with mem := 0x3456, ret := 0x0111, int := 0x0222 } (fun t => [(t.gread 0 .w8).toNat, t.mem.toNat, t.ret.toNat, t.int.toNat, t.pc.toNat]) =
      some [0x12, 0x3456, 0x0111, 0x0222, 0x0011] := by decide
/-- V-NO-9. -/
theorem test_unknown_NO_9 :
    after { start 0x0010 [0xFF] [] [] with ilatch := 0x0400, int := 0x0222 } (fun t => [t.int.toNat, t.ilatch.toNat, t.pc.toNat]) =
      some [0x0222, 0x0400, 0x0011] := by decide

/-! ### Well-formed instructions -/

/-- An operand that stores a byte of an assigned register is refused, wherever it stands: the bytes of `nil` to `int` and
of the sixteen general registers, in the first, second and third position. -/
theorem test_wf_refuses_assigned_bytes :
    (List.range 5 ++ List.range' 0x10 16).all (fun n =>
      !Instr.wellFormed (.not (.unassigned (BitVec.ofNat 8 n))) &&
      !Instr.wellFormed (.mov8 .nil (.unassigned (BitVec.ofNat 8 n))) &&
      !Instr.wellFormed (.add8 .nil .nil (.unassigned (BitVec.ofNat 8 n)))) = true := by decide

/-- The bytes of no register stand for themselves (R90). -/
theorem test_wf_accepts_unassigned_bytes :
    Instr.wellFormed (.add8 (.unassigned 0x05) (.unassigned 0x0F) (.unassigned 0x20)) = true ∧
    Instr.wellFormed (.beq32 (.unassigned 0xFF) (.gen 15) 0) = true ∧
    Instr.wellFormed (.li32 .pc 0) = true ∧ Instr.wellFormed (.clm 0 0 0) = true := by decide

/-- An unknown opcode, a missing argument and an empty list are refused by name. -/
theorem test_decode_refuses_by_name :
    (match decode [0x17, 0x10] with | .error e => decide (e = .unknownOpcode 0x17) | .ok _ => false) = true ∧
    (match decode [0x42, 0x10, 0x10] with | .error e => decide (e = .truncated 0x42) | .ok _ => false) = true ∧
    (match decode [] with | .error e => decide (e = .noBytes) | .ok _ => false) = true := by decide

/-- The host's numbering: byte 0 in the low bits, the argument bytes zero. -/
theorem test_decodeTableWord :
    decodeTableWord 8 0x22 = some (.li32 .nil 0) ∧ decodeTableWord 24 0x031019 = some (.shr (.gen 0) 3) ∧
    decodeTableWord 8 0x17 = none := by decide

/-! ### Registers and memory: the worked examples and vectors of the spec -/

/-- V-ST-1 to V-ST-4. -/
theorem test_register_views :
    ((((State.reset.gwrite 0 .w32 0x44332211).gread 0 .w16).toNat, ((State.reset.gwrite 0 .w32 0x44332211).gread 2 .w16).toNat),
      (((State.reset.gwrite 0 .w32 0x44332211).gwrite 2 .w8 0xAA).gread 0 .w32).toNat,
      ((((State.reset.gwrite 0 .w32 0x44332211).gwrite 2 .w8 0xAA).gwrite 0 .w16 0xBEEF).gread 0 .w32).toNat) =
    ((0x2211, 0x4433), 0x44AA2211, 0x44AABEEF) := by decide

/-- V-ME-6: the byte beyond the last address is dropped, and address 0 keeps its value. -/
theorem test_write_at_the_top :
    ((State.reset.memWrite 0x98CF .w16 0x1234).byteAt 0x98CF, (State.reset.memWrite 0x98CF .w16 0x1234).byteAt 0,
      (State.reset.memWrite 0x98CF .w16 0x1234).memRead 0x98CF .w16) = (0x34, 0, 0x34) := by decide

/-- The reference layout with the read-only module of V-LS-20 to V-LS-22 from 0x0100 on. -/
def readOnlyConfig : Configuration :=
  { Layout.reference with
    modules :=
      [{ start := 0, capacity := 0x100, readOnly := false }, { start := 0x100, capacity := 0x100, readOnly := true },
       { start := 0x200, capacity := 0x7E00, readOnly := false }, { start := 0x8000, capacity := 6088, readOnly := false },
       { start := 38856, capacity := 264, readOnly := false }]
    isLegal := by decide }

/-- What `sm16 r0r1` with 0xBEEF in r0r1 leaves at `mem` under that configuration. -/
def storedUnderReadOnly (a : Addr) : List Byte :=
  match exec (.sm16 (.gen 0)) { (State.powerOn readOnlyConfig).gwrite 0 .w16 0xBEEF with mem := a } with
  | .next t => t.bytesAt a.toNat 2
  | _ => []

/-- V-LS-20 to V-LS-22: the module of the first byte decides. -/
theorem test_read_only_module :
    [0x100, 0x0FF, 0x1FF].map storedUnderReadOnly = [[0, 0], [0xEF, 0xBE], [0, 0]] := by decide

/-- Another machine: 792 bytes, the devices elsewhere, `not` at opcode byte 0x05 and `r0` at operand byte 0x02. -/
def otherConfig : Configuration where
  modules :=
    [{ start := 0, capacity := 0x100, readOnly := false }, { start := 0x100, capacity := 0x100, readOnly := true },
     { start := 0x200, capacity := 264, readOnly := false }, { start := 0x308, capacity := 16, readOnly := false }]
  vramBase := 0x308
  keyramBase := 0x200
  opmap := [(0x13, 0x77), (0x77, 0x05)]
  regmap := [(0x10, 0x02)]
  isLegal := by decide

/-- R6: `CAP`, `KEYRAM_BASE`, `OPMAP` and `REGMAP` of the configuration are what the machine runs by. An instruction at the
last address wraps to 0, a key event writes key-RAM where it is, and nothing is stored at or above `CAP`. -/
theorem test_other_configuration :
    otherConfig.cap = 792 ∧ encodeIn otherConfig (.not (.gen 0)) = [0x05, 0x02] ∧
    (match instructionStep (((State.powerOn otherConfig).placeBytes 791 [0x05, 0x02]).jump 791).nextOpcode with
      | .next t => (t.reg 0, t.pc)
      | _ => (0, 0)) = ((0xFF : Byte), (1 : Addr)) ∧
    ((State.powerOn otherConfig).setKey 255 true).bytesAt 0x202 1 = [255] ∧
    ((State.powerOn otherConfig).setKey 255 true).byteAt 0x307 = 255 ∧
    ((State.powerOn otherConfig).memWrite 791 .w16 0xBEEF).bytesAt 791 2 = [0xEF, 0] := by decide

/-- Building fails (R51, R302): no module, a misaligned capacity, an overlap, a gap. -/
theorem test_illegal_layouts :
    [[], [{ start := 0, capacity := 39122, readOnly := false }],
      { start := 4, capacity := 8, readOnly := false } :: Layout.reference.modules,
      { start := 39124, capacity := 8, readOnly := false } :: Layout.reference.modules].all
      (fun ms => ({ Layout.reference with modules := ms } : Layout).build.isNone) = true := by decide

/-- V-BK-10: a block copy writes a read-only module all the same (R60). -/
theorem test_bulk_ignores_read_only :
    ((State.reset.storeBytes 0x300 [1, 2]).bulkCopy 0x300 0x100 2).bytesAt 0x100 3 = [1, 2, 0] := by decide

/-- A write of what an unlisted address reads as takes the entry out again. -/
theorem test_write_keeps_the_canonical_form :
    ((State.reset.storeBytes 0x200 [7, 8]).storeBytes 0x200 [0]).bus = [(0x201, 8)] := by decide

/-! ### Cycles -/

/-- The display of the spec's test size, 4 by 2 pixels at 3,010 cycles a second (TS6). -/
def testVideo : VideoParams :=
  { widthPred := 3, heightPred := 1, clockSlack := 1810, charHOffset := 1, tileBanks := 2, tileIdTableOff := 2064,
    tileBit := fun _ _ _ x _ => x % 2 = 1 }

/-- The smallest legal budget of TS6: 1 by 1 pixel at 420 cycles a second, the v-blank of cost 0. -/
def tinyVideo : VideoParams := { testVideo with widthPred := 0, heightPred := 0, clockSlack := 0 }

/-- The 128 by 96 display at 1,000,000 cycles a second of TS6. -/
def illustratedVideo : VideoParams := { testVideo with widthPred := 127, heightPred := 95, clockSlack := 228160 }

/-- The rows of the table of TS6. -/
theorem test_video_budgets :
    (testVideo.clockRate, cyclesPerFrame testVideo, cyclesPerVblank testVideo, cyclesPerSync testVideo) = (3010, 100, 60, 10) ∧
    (tinyVideo.clockRate, cyclesPerFrame tinyVideo, cyclesPerVblank tinyVideo, cyclesPerSync tinyVideo) = (420, 14, 0, 0) ∧
    (illustratedVideo.clockRate, cyclesPerFrame illustratedVideo, cyclesPerVblank illustratedVideo,
      cyclesPerSync illustratedVideo) = (1000000, 33333, 7605, 10) := by decide

/-- `n` cycles at one cycle an instruction, with the display of the test size. -/
def cycles (n : Nat) (s : State) : Option State :=
  match n with
  | 0 => some s
  | n + 1 =>
    match cycle (fun _ => 1) testVideo false s with
    | .next t => cycles n t
    | _ => none

/-- What TS8 shows of a state. -/
def latchView (s : State) : List Nat := [s.pc.toNat, s.int.toNat, s.ilatch.toNat] ++ s.iq.map BitVec.toNat

/-- TS8, its four rows: one request a cycle, in order. -/
theorem test_two_requests :
    [1, 2, 3, 4].map (fun n => (cycles n { State.reset with iq := [0x0100, 0x0200] }).map latchView) =
    [some [1, 0, 0x0100, 0x0200], some [0x0100, 2, 0x0200], some [0x0200, 0x0101, 0], some [0x0201, 0x0101, 0]] := by decide

/-- A state with the key vector of TS7. -/
def keyVector : State := { State.reset with bus := [(0x97C9, 3)] }

/-- TS7: two key events, one request, and then none. -/
theorem test_key_events :
    (keyboardCycle ((keyVector.setKey 65 true).setKey 66 true)).iq = [0x0300] ∧
    (keyboardCycle (keyboardCycle ((keyVector.setKey 65 true).setKey 66 true))).iq = [0x0300] ∧
    ((keyVector.setKey 65 true).setKey 66 true).byteAt 0x97CA = 66 ∧
    ((keyVector.setKey 65 true).setKey 66 true).byteAt 0x9811 = 255 ∧
    ((keyVector.setKey 65 true).setKey 65 false).byteAt 0x9811 = 0 := by decide

/-- `nopi 5` spends five cycles and its argument byte (V-NO-3). -/
theorem test_nopi_spends_its_argument :
    [1, 4, 5].map (fun n => (cycles n (start 0x10 [0x01, 0x05] [] [])).map fun t => (t.pc.toNat, t.crem)) =
    [some (0x10, 4), some (0x10, 1), some (0x12, 0)] := by decide

/-- A VRAM with block mode, black and white palettes and the h-blank and v-blank vectors 0x0111 and 0x0222. -/
def paletteBus : Memory :=
  [(0x8000, 2), (0x8001, 1), (0x8002, 2), (0x8003, 3), (0x8004, 4), (0x8005, 5), (0x8006, 6), (0x800A, 0x11), (0x800B, 1),
   (0x800C, 0x22), (0x800D, 2)]

/-- R334, R338: an even column takes the background and an odd one the foreground of this display's tiles. -/
theorem test_pixels :
    (videoCycles testVideo 3 { State.reset with bus := paletteBus }).fb =
      [(0, 1), (1, 2), (2, 3), (3, 255), (4, 4), (5, 5), (6, 6), (7, 255)] := by decide

/-- A whole frame of one pixel with a v-blank of one cycle: an h-blank and a v-blank request in 15 cycles. -/
theorem test_frame :
    let t := videoCycles { tinyVideo with clockSlack := 30 } 15 { State.reset with bus := paletteBus }
    (t.vx, t.vy, t.vrem, t.vframe, t.iq.map BitVec.toNat) = (0, 0, 0, 1, [0x0111, 0x0222]) := by decide

/-- A v-blank of cost 0 chains into the next unit in the same cycle (TS6, R333). -/
theorem test_units_of_cost_zero_chain :
    let t := videoCycles tinyVideo 15 { State.reset with bus := paletteBus }
    (t.vx, t.vy, t.vrem, t.vframe, t.iq.map BitVec.toNat) = (0, 0, 1, 1, [0x0111, 0x0222]) := by decide

/-- `step` runs the instruction the host places as the first after reset. -/
theorem test_withFetchWord :
    (match step (State.reset.withFetchWord 16 0x0513) with
      | .next t => (t.reg 5, t.pc)
      | _ => (0, 0)) = ((0 : Byte), (2 : Addr)) := by decide

/-- The same with an instruction that changes a register: `not r5`. -/
theorem test_withFetchWord_not :
    (match step (State.reset.withFetchWord 16 0x1513) with
      | .next t => (t.reg 5, t.pc)
      | _ => (0, 0)) = ((0xFF : Byte), (2 : Addr)) := by decide

/-! ### Cases that meet the hypotheses of the statements -/

theorem witness_DecodeInvertsEncode :
    Instr.wellFormed (.addi32 (.gen 12) (.unassigned 0xFF) 0x80000000) = true ∧ Instr.wellFormed .rint = true := by decide

theorem witness_EncodeInvertsDecode :
    decode [0x46, 0x1C, 0x05, 0xFF, 0x00, 0x00, 0x80, 0x99] = .ok (.addi32 (.gen 12) (.unassigned 0x05) 0x800000FF) := by rfl

theorem witness_LengthFromOpcodeByte :
    decode [0xA0, 0, 0, 0, 0, 0] = .ok (.mvm 0 0 0) ∧ decode [0xA0, 1, 2, 3, 4, 5, 6] = .ok (.mvm 0x0201 0x0403 5) := ⟨rfl, rfl⟩

/-- A state about to fetch an unknown opcode, at the last address. -/
def atUnknown : State := { State.reset with pc := 0x98CF, bus := [(0x98CF, 0xFF)] }

theorem witness_UnknownOpcodeOnlyAdvances :
    atUnknown.crem = 0 ∧ knownOpcode atUnknown.config atUnknown.opcodeByte = false ∧ knownOpcode Configuration.reference 0x02 = false ∧
    knownOpcode Configuration.reference 0xB3 = true ∧ knownOpcode otherConfig 0x13 = false ∧ knownOpcode otherConfig 0x05 = true ∧
    0x02 ∈ unassignedOpcodes ∧ 0xFF ∈ unassignedOpcodes := by decide

theorem witness_OperandBytesNameRegisters :
    (0x04 < (0x05 : Byte).toNat ∧ (0x05 : Byte).toNat < 0x10) ∧ 0x1F < (0x20 : Byte).toNat := by decide

theorem witness_SourceAndDestinationOperands :
    gbase (.gen 12) .w32 = some 12 ∧ gbase (.gen 15) .w8 = some 15 ∧
    (Operand.gen 13 ≠ .nil ∧ gbase (.gen 13) .w32 = none) ∧ (Operand.unassigned 0x20 ≠ .nil ∧ gbase (.unassigned 0x20) .w8 = none) ∧
    (Operand.gen 0 ≠ .pc ∧ Operand.gen 0 ≠ .mem ∧ Operand.gen 0 ≠ .ret ∧ Operand.gen 0 ≠ .int) ∧
    (∃ n, gbase (.gen 14) .w16 = some n) := by
  refine ⟨rfl, rfl, by decide, by decide, by decide, 14, rfl⟩

theorem witness_RegisterViewsAliasBytes :
    15 + Width.w8.bytes ≤ 16 ∧ 14 + Width.w16.bytes ≤ 16 ∧ 12 + Width.w32.bytes ≤ 16 ∧
    (3 < Width.w32.bytes ∧ 0 < Width.w32.bytes) ∧ (15 < 16 ∧ 8 + Width.w32.bytes ≤ 15) ∧ (7 < 16 ∧ 7 < 8) := by decide

theorem witness_ScalarReadsAreLittleEndian :
    (2 < Width.w32.bytes ∧ State.reset.config.cap ≤ 0x98CE + 2) ∧
    (1 < Width.w32.bytes ∧ 0x98CE + 1 < State.reset.config.cap) := by decide

theorem witness_ScalarWritesHonourOwnerAndCap :
    canonical (State.powerOn readOnlyConfig) ∧
    (⟨0x100, 0x100, true⟩ ∈ readOnlyConfig.modules ∧ Module.owns ⟨0x100, 0x100, true⟩ 0x1FF = true) ∧
    readOnlyConfig.cap ≤ 0x98D0 ∧ readOnlyConfig.readOnly 0x100 = true ∧
    (0x98CF < readOnlyConfig.cap ∧ readOnlyConfig.readOnly 0x98CF = false) ∧
    (0x98CC + Width.w32.bytes ≤ readOnlyConfig.cap ∧ readOnlyConfig.readOnly 0x98CC = false) := by
  refine ⟨rfl, by decide, by decide, by decide, by decide, by decide⟩

theorem witness_ModulesTileTheBus :
    0 < Configuration.reference.cap ∧ 39119 < Configuration.reference.cap ∧ Configuration.reference.cap ≤ 39120 ∧
    Module.owns ⟨32768, 6088, false⟩ 32768 = true ∧ ({ Layout.reference with modules := [] } : Layout).modules = [] ∧
    (⟨2, 8, false⟩ ∈ ({ Layout.reference with modules := [⟨2, 8, false⟩] } : Layout).modules ∧ 2 % 4 ≠ 0) ∧
    (({ Layout.reference with modules := [⟨0, 8, false⟩, ⟨4, 8, true⟩] } : Layout).modules =
        [] ++ ⟨0, 8, false⟩ :: [] ++ ⟨4, 8, true⟩ :: [] ∧
      Module.owns ⟨0, 8, false⟩ 7 = true ∧ Module.owns ⟨4, 8, true⟩ 7 = true) := by decide

theorem witness_NopFormsOnlyAdvance :
    State.reset.config.opcode 0x00 = 0x00 ∧ (State.powerOn otherConfig).config.opcode 0x00 = 0x00 := by decide

/-- A canonical state with memory bytes of its own. -/
def withBytes : State := { State.reset with bus := [(0x0300, 1), (0x0301, 2), (0x98CF, 9)] }

/-- Premise of `StoreResults`, `BlockCopyResults`, `BlockFillResults`, `KeyEventsCoalesce` and `LoadProgramState`. -/
theorem witness_canonical : canonical withBytes ∧ canonical State.reset := ⟨rfl, rfl⟩

theorem witness_StoreResults :
    canonical { withBytes with mem := 0x98CF } ∧ State.reset.config.readOnly 0x98CF = false ∧
    (({ withBytes with mem := 0x98CF } : State).srcVal (.gen 0) .w32).bind (fun v => storedByte 39120 0x98CF .w32 v 0x98CF) = some 0 ∧
    (({ withBytes with mem := 0x98CF } : State).srcVal (.gen 0) .w32).bind (fun v => storedByte 39120 0x98CF .w32 v 0x98D0) = none := by
  refine ⟨rfl, by decide, by decide, by decide⟩

theorem witness_BlockCopyResults :
    canonical withBytes ∧ (0x98CE ≤ 0x98CF ∧ 0x98CF < 0x98CE + min 4 (min (withBytes.config.cap - 0x0300) (withBytes.config.cap - 0x98CE))) := by
  refine ⟨rfl, by decide⟩

/-- The clauses of `Wrote`, in the statements about results: a valid target and value at the last pair, a register inside the
target and one outside it, and an invalid source. -/
theorem witness_Wrote :
    (gbase (.gen 14) .w16 = some 14 ∧
      both (fun a b => trunc 16 (a.toInt + b.toInt)) (State.reset.srcVal .nil .w16) (State.reset.srcVal (.gen 12) .w16) = some 0) ∧
    (15 < 16 ∧ 14 ≤ 15 ∧ 15 < 14 + Width.w16.bytes) ∧ (13 < 16 ∧ ¬14 ≤ 13) ∧
    both (fun a b => trunc 16 (a.toInt + b.toInt)) (State.reset.srcVal .pc .w16) (State.reset.srcVal .nil .w16) = none := by
  decide

theorem witness_LoadImmediateResults : Operand.mem = .mem ∧ Operand.gen 0 ≠ .mem := by decide

theorem witness_QuotientsTruncateTowardZero :
    ((2 : BitVec 8) ≠ 0 ∧ ¬((0xF9 : BitVec 8).toInt = -2 ^ 7 ∧ (2 : BitVec 8).toInt = -1)) ∧
    ((0x80 : BitVec 8).toInt = -2 ^ 7 ∧ (0xFF : BitVec 8).toInt = -1) ∧
    ((2 : BitVec 16) ≠ 0 ∧ ¬((0x8000 : BitVec 16).toInt = -2 ^ 15 ∧ (2 : BitVec 16).toInt = -1)) ∧
    ((0x8000 : BitVec 16).toInt = -2 ^ 15 ∧ (0xFFFF : BitVec 16).toInt = -1) ∧
    ((2 : BitVec 32) ≠ 0 ∧ ¬((0x80000000 : BitVec 32).toInt = -2 ^ 31 ∧ (2 : BitVec 32).toInt = -1)) ∧
    ((0x80000000 : BitVec 32).toInt = -2 ^ 31 ∧ (0xFFFFFFFF : BitVec 32).toInt = -1) := by decide

theorem witness_JumpAndReturnResults : ({ State.reset with int := 0x0213, ilatch := 0x0400 } : State).ilatch ≠ 0 := by decide

theorem witness_CallThenReturnComesBack :
    State.reset.ilatch = 0 ∧ ∃ t u : State, completed (.call 0x0100) State.reset = .next t ∧
      u.config = State.reset.config ∧ u.ret = t.ret ∧ u.ilatch = 0 := by
  refine ⟨rfl, _, { State.reset with ret := 3 }, rfl, rfl, by decide, rfl⟩

theorem witness_InvalidOperandsAreInert :
    operandsOK (.add16 (.gen 0) .pc .nil) = false ∧ operandsOK (.beq16 (.gen 1) (.gen 1) 0x40) = false ∧
    operandsOK (.mov16 .mem (.gen 0)) = false ∧ operandsOK (.li8 .nil 0) = false ∧ operandsOK (.sm16 .pc) = false := by decide

theorem witness_WhoMayWriteWhat :
    (∃ t, exec (.li16 .mem 5) State.reset = .next t ∧ t.mem ≠ State.reset.mem) ∧
    (∃ t, exec (.call 0x0100) State.reset = .next t ∧ t.ret ≠ State.reset.ret) ∧
    (∃ t, exec .rint { State.reset with int := 5 } = .next t ∧ t.int ≠ ({ State.reset with int := 5 } : State).int) ∧
    (∃ t, exec (.clm 0x0400 1 9) State.reset = .next t ∧ t.byteAt 0x0400 ≠ State.reset.byteAt 0x0400) := by
  refine ⟨⟨_, rfl, by decide⟩, ⟨_, rfl, by decide⟩, ⟨_, rfl, by decide⟩, ⟨_, rfl, by decide⟩⟩

theorem witness_InterruptEntryAfterKnownInstruction :
    (∃ t, exec .nop State.reset = .next t ∧ t.ilatch = 0) ∧
    ∃ t, exec .nop { State.reset with pc := 0x98CF, ilatch := 0xFFFF } = .next t ∧ t.ilatch ≠ 0 := by
  refine ⟨⟨_, rfl, rfl⟩, _, rfl, by decide⟩

theorem witness_CostOfInstructions :
    (∀ x : Byte, 1 ≤ (fun _ : Byte => 1) x) ∧ knownOpcode State.reset.config 0x17 = false ∧
    State.reset.config.opcode 0x00 = 0x00 ∧ State.reset.config.opcode 0x01 = 0x01 ∧
    (knownOpcode State.reset.config 0x10 = true ∧ State.reset.config.opcode 0x10 ≠ 0x00 ∧
      State.reset.config.opcode 0x10 ≠ 0x01) := by
  refine ⟨fun _ => Nat.le_refl 1, by decide, by decide, by decide, by decide⟩

theorem witness_CostOnlyDelaysTheInstruction :
    (∀ x : Byte, 1 ≤ (fun _ : Byte => 3) x) ∧ State.reset.crem = 0 ∧
    ∃ s : State, s.crem = 0 ∧ 0 < 2 ∧ 2 < costOf (fun _ => 3) s s.opcodeByte := by
  refine ⟨fun _ => Nat.le_add_left 1 2, rfl, { State.reset with bus := [(0, 0x13)] }, rfl, by decide, by decide⟩

theorem witness_StepRunsTheDecodedInstruction :
    (cyclesLeft Config.cost (keyboardCycle ({ State.reset with crem := 1, cop := 0x13 } : State).takeHostActions) = 0 ∧
      decodeIn State.reset.config [0x13, 0, 0, 0, 0, 0, 0] = .ok (.not .nil)) ∧
    (cyclesLeft Config.cost (keyboardCycle atUnknown.takeHostActions) = 0 ∧
      knownOpcode State.reset.config (keyboardCycle atUnknown.takeHostActions).currentOpcode = false) ∧
    knownOpcode State.reset.config
      (keyboardCycle ({ State.reset with crem := 1, cop := 0x13 } : State).takeHostActions).currentOpcode = true ∧
    cyclesLeft Config.cost (keyboardCycle ({ State.reset with crem := 2, cop := 0x13 } : State).takeHostActions) ≠ 0 := by
  refine ⟨⟨rfl, rfl⟩, ⟨rfl, rfl⟩, rfl, by decide⟩

/-- The bytes of the first case above are those the state holds. -/
theorem witness_StepRunsTheDecodedInstruction_bytes :
    (keyboardCycle ({ State.reset with crem := 1, cop := 0x13 } : State).takeHostActions).currentOpcode ::
      (keyboardCycle ({ State.reset with crem := 1, cop := 0x13 } : State).takeHostActions).argBytes =
    [0x13, 0, 0, 0, 0, 0, 0] := by decide

theorem witness_HostActionsComeBeforeTheCycle :
    State.reset.host = [] ∧ ({ State.reset with host := [[], [.pause]] } : State).host = [] :: [[.pause]] ∧
    ({ State.reset with host := [[.setKey 65 true, .pause], [.resume]] } : State).host =
      [.setKey 65 true, .pause] :: [[.resume]] := by decide

/-- R341, R345: two actions of one gap in their order, the entry used up; the next gap's action waits. -/
theorem test_host_actions :
    (let t := ({ State.reset with host := [[.setKey 65 true, .setKey 66 true, .pause], [.resume]] } : State).takeHostActions
     (t.byteAt 0x97CA, t.kdirty, t.paused, t.host, t.takeHostActions.paused)) =
    ((66 : Byte), true, true, [[HostAction.resume]], false) := by decide

theorem witness_AdvanceAddsUp : ∃ t, advance 2 State.reset = .next t := ⟨_, rfl⟩

/-- A legal state other than that of reset: in the h-blank of the first scanline, with a request queued. -/
def legalState : State := { State.reset with pc := 0x98CF, ret := 0x98CF, vphase := .hblank, iq := [0x0300], bus := [(0, 5)] }

theorem witness_InvariantKeptByEveryStep : Inv legalState ∧ ∃ t, step legalState = .next t := by
  refine ⟨⟨rfl, rfl, by decide, by decide, by decide, Nat.succ_pos _, Nat.succ_pos _, by decide, fun _ => rfl, ?_, ?_, by decide⟩,
    _, rfl⟩
  · intro h; rcases h with h | h <;> cases h
  · intro h; cases h

theorem witness_LatchAndRequestRules : (0xFFFF : Addr) ≠ 0 ∧ State.reset.ilatch = 0 ∧
    ({ State.reset with ilatch := 1 } : State).ilatch ≠ 0 := by decide

theorem witness_ArbiterServesTheFront :
    State.reset.iq = [] ∧
    (({ State.reset with iq := [1, 2], ilatch := 7 } : State).iq = 1 :: [2] ∧
      ({ State.reset with iq := [1, 2], ilatch := 7 } : State).ilatch ≠ 0) ∧
    (({ State.reset with iq := [1, 2] } : State).iq = 1 :: [2] ∧ ({ State.reset with iq := [1, 2] } : State).ilatch = 0) := by
  decide

theorem witness_KeyEventsCoalesce :
    canonical keyVector ∧ ([((65 : Byte), true), (66, true)] ++ [((65 : Byte), false)] = [(65, true)] ++ (66, true) :: [(65, false)]) ∧
    (∀ x ∈ [((65 : Byte), false)], x.1 ≠ (66 : Byte)) ∧
    (38859 ≠ keyVector.config.keyramBase + 2 ∧ ∀ e ∈ [((65 : Byte), true)] ++ [((66 : Byte), true)],
      38859 ≠ keyVector.config.keyramBase + 8 + e.1.toNat) := by
  refine ⟨rfl, rfl, by simp, ?_⟩
  show 38859 ≠ 38856 + 2 ∧ ∀ e ∈ [((65 : Byte), true)] ++ [((66 : Byte), true)], 38859 ≠ 38856 + 8 + e.1.toNat
  simp

/-- A clean machine with a dirty keyboard mapper and a key vector. -/
def keyPending : State := { keyVector with kdirty := true }

theorem witness_KeyRequestIsLatchedInItsCycle :
    keyPending.host.headD [] = [] ∧ keyPending.kdirty = true ∧ keyPending.iq = [] ∧ keyPending.ilatch = 0 ∧
    keyPending.memRead keyPending.config.keyramBase .w16 ≠ 0 := by decide

theorem witness_PixelUnitWritesOnePixel :
    (State.reset.vx < testVideo.displayW ∧ State.reset.vy < testVideo.displayH ∧
      Memory.wf (fun _ => 0) (frameBytes testVideo) State.reset.fb = true) ∧
    (State.reset.vx + 1 < testVideo.displayW ∧ State.reset.vphase = .pixel) ∧
    (({ State.reset with vx := 3, vy := 1 } : State).vx + 1 = testVideo.displayW) ∧
    (3 < 4 ∧ (31 < (1 * 4 + 3) * 4 + 4 ∧ 27 < (1 * 4 + 3) * 4 ∧ (1 * 4 + 3) * 4 + 4 ≤ 32)) := by decide

/-- Character mode, with bank 1 active. -/
def characterBus : Memory := [(0x8000, 1), (0x8007, 1)]

theorem witness_PixelColourFromPalettes :
    (({ State.reset with bus := characterBus } : State).vramByte 0 = 1 ∧ 0 < testVideo.charHOffset ∧
      testVideo.displayW - testVideo.charHOffset ≤ 3) ∧
    testVideo.tileBanks ≤ (({ State.reset with bus := [(0x8007, 2)] } : State).vramByte 7).toNat ∧
    (({ State.reset with bus := paletteBus } : State).vramByte 0 ≠ 1 ∧
      (({ State.reset with bus := paletteBus } : State).vramByte 7).toNat < testVideo.tileBanks) ∧
    (testVideo.charHOffset ≤ 1 ∧ 2 < testVideo.displayW - testVideo.charHOffset ∧
      (({ State.reset with bus := characterBus } : State).vramByte 7).toNat < testVideo.tileBanks) := by decide

theorem witness_VideoCycleStartsUnitsUntilOneCosts :
    ({ State.reset with vrem := 60 } : State).vrem ≠ 0 ∧ State.reset.vrem = 0 ∧
    ((videoUnit tinyVideo)^[1] { State.reset with vphase := .vblank, vframe := 29 }).vrem = 0 := by decide

theorem witness_FrameBudgetAddsUp : illustratedVideo.clockRate = 1000000 := by decide

theorem witness_FrameTakesItsCyclesAndRequests :
    State.reset.vphase = .pixel ∧ State.reset.vx = 0 ∧ State.reset.vy = 0 ∧ State.reset.vrem = 0 ∧
    State.reset.vframe + 1 < 30 ∧ ({ State.reset with vframe := 28 } : State).vframe + 1 < 30 ∧
    cyclesPerVblank testVideo ≠ 0 ∧ cyclesPerVblank tinyVideo = 0 := by decide

/-- The displays of the branches: a residual and none, a v-blank of a cost and of none. -/
theorem witness_SecondTakesClockRateCycles :
    State.reset.vphase = .pixel ∧ State.reset.vx = 0 ∧ State.reset.vy = 0 ∧ State.reset.vrem = 0 ∧ State.reset.vframe = 0 ∧
    cyclesPerSync testVideo ≠ 0 ∧ (cyclesPerSync tinyVideo = 0 ∧ cyclesPerVblank tinyVideo = 0) ∧
    (cyclesPerSync { tinyVideo with clockSlack := 30 } = 0 ∧ cyclesPerVblank { tinyVideo with clockSlack := 30 } ≠ 0) := by
  decide

theorem witness_ResetValues :
    (0x7FFF < Configuration.reference.vramBase) ∧
    (Configuration.reference.vramBase + 7 ≤ 0x8007 ∧ 0x800F < Configuration.reference.vramBase + 16) ∧
    Configuration.reference.vramBase + Configuration.reference.vramSize ≤ 0x97C8 ∧ 15 < 16 := by decide

theorem witness_LoadProgramState :
    canonical withBytes ∧ ((0x98CE : Addr).toNat ≤ 0x98CF ∧ 0x98CF < (0x98CE : Addr).toNat + [(1 : Byte), 2, 3].length ∧
      0x98CF < withBytes.config.cap) := by
  refine ⟨rfl, by decide⟩

end Sys2Proof.Tests
end

section
/-! PROOF of O11 (R51, R52, R302). The constraints say that the modules are apart and end at or below `CAP`; that every
address below `CAP` has an owner follows by counting, since the capacities add up to `CAP`. -/

namespace Sys2Proof

/-! ### The addresses of a module, as a list -/

/-- The addresses of a module, rising. -/
def Module.addresses (m : Module) : List Nat := List.range' m.start m.capacity

theorem Module.mem_addresses_iff_owns {m : Module} {a : Nat} : a ∈ m.addresses ↔ m.owns a = true := by
  rw [Module.addresses, List.mem_range'_1, Module.owns_iff]

theorem Module.length_addresses (m : Module) : m.addresses.length = m.capacity := List.length_range'

/-- Modules that are apart own no address in common (R51). -/
theorem Module.not_owns_of_apart {m n : Module} {a : Nat} (h : m.apart n = true) (om : m.owns a = true) :
    ¬ n.owns a = true := by
  intro on
  rw [Module.owns_iff] at om on
  rw [Module.apart, decide_eq_true_eq] at h
  omega

/-! ### The modules of a configuration fill the bus -/

/-- The addresses of all modules, module after module. -/
def Layout.addresses (l : Layout) : List Nat := l.modules.flatMap Module.addresses

theorem Layout.mem_addresses_iff {l : Layout} {a : Nat} : a ∈ l.addresses ↔ ∃ m ∈ l.modules, m.owns a = true := by
  simp only [Layout.addresses, List.mem_flatMap, Module.mem_addresses_iff_owns]

theorem Layout.length_addresses (l : Layout) : l.addresses.length = l.cap := by
  simp only [Layout.addresses, List.length_flatMap, Module.length_addresses, Layout.cap]

/-- No address is listed twice, because the modules do not overlap. -/
theorem Configuration.nodup_addresses (c : Configuration) : c.addresses.Nodup := by
  obtain ⟨-, -, hapart, -⟩ := c.constraints
  refine List.nodup_flatMap.2 ⟨fun m _ => List.nodup_range', hapart.imp fun {m n} hmn a ham han => ?_⟩
  exact Module.not_owns_of_apart hmn (Module.mem_addresses_iff_owns.1 ham) (Module.mem_addresses_iff_owns.1 han)

theorem Configuration.lt_cap_of_owns (c : Configuration) {m : Module} {a : Nat} (hm : m ∈ c.modules)
    (om : m.owns a = true) : a < c.cap := by
  obtain ⟨-, -, -, hend, -⟩ := c.constraints
  exact ((m.owns_iff a).1 om).2.trans_le (hend m hm)

/-- The addresses of the modules are those below `CAP`, each once: they are `CAP` many, all different and all below it. -/
theorem Configuration.addresses_perm_range (c : Configuration) : c.addresses.Perm (List.range c.cap) := by
  have hsub : c.addresses ⊆ List.range c.cap := fun a ha => by
    obtain ⟨m, hm, om⟩ := Layout.mem_addresses_iff.1 ha
    exact List.mem_range.2 (c.lt_cap_of_owns hm om)
  refine (List.subperm_of_subset c.nodup_addresses hsub).perm_of_length_le ?_
  rw [Layout.length_addresses, List.length_range]

/-- An address lies in some module exactly when it is below `CAP` (R51). -/
theorem Configuration.exists_owns_iff (c : Configuration) {a : Nat} :
    (∃ m ∈ c.modules, m.owns a = true) ↔ a < c.cap := by
  rw [← Layout.mem_addresses_iff, c.addresses_perm_range.mem_iff, List.mem_range]

theorem Configuration.exists_unique_owner (c : Configuration) {a : Nat} (ha : a < c.cap) :
    ∃ m ∈ c.modules, m.owns a = true ∧ c.owner a = some m ∧ ∀ m' ∈ c.modules, m'.owns a = true → m' = m := by
  obtain ⟨m, hm, om⟩ := c.exists_owns_iff.2 ha
  exact ⟨m, hm, om, c.owner_eq hm om, fun m' hm' om' => c.owner_unique hm' hm om' om⟩

theorem Configuration.owner_eq_none_of_cap_le (c : Configuration) {a : Nat} (ha : c.cap ≤ a) : c.owner a = none := by
  refine Option.eq_none_iff_forall_ne_some.2 fun m h => ?_
  obtain ⟨hm, om⟩ := Layout.owner_mem h
  exact absurd (c.lt_cap_of_owns hm om) ha.not_gt

/-! ### Which layouts build -/

theorem Layout.build_toLayout (c : Configuration) : c.toLayout.build = some c := dif_pos c.isLegal

/-- Building fails on a layout that is no configuration's (R302). -/
theorem Layout.build_eq_none {l : Layout} (h : ∀ c : Configuration, c.toLayout ≠ l) : l.build = none :=
  dif_neg fun hl => h ⟨l, hl⟩ rfl

theorem Layout.build_eq_none_of_empty {l : Layout} (h : l.modules = []) : l.build = none := by
  refine Layout.build_eq_none ?_
  rintro c rfl
  exact c.constraints.1 h

theorem Layout.build_eq_none_of_misaligned {l : Layout} {m : Module} (hm : m ∈ l.modules)
    (h : m.start % 4 ≠ 0 ∨ m.capacity % 4 ≠ 0) : l.build = none := by
  refine Layout.build_eq_none ?_
  rintro c rfl
  obtain ⟨-, haligned, -⟩ := c.constraints
  obtain ⟨hstart, hcapacity⟩ := haligned m hm
  exact h.elim (absurd hstart) (absurd hcapacity)

/-- Two entries of the list, equal ones included, that own an address in common are no machine (R51). -/
theorem Layout.build_eq_none_of_overlap {l : Layout} {m n : Module} {xs ys zs : List Module} {a : Nat}
    (hl : l.modules = xs ++ m :: ys ++ n :: zs) (om : m.owns a = true) (on : n.owns a = true) : l.build = none := by
  refine Layout.build_eq_none ?_
  rintro c rfl
  obtain ⟨-, -, hapart, -⟩ := c.constraints
  rw [hl] at hapart
  obtain ⟨-, -, hmn⟩ := List.pairwise_append.1 hapart
  exact Module.not_owns_of_apart (hmn m (by simp) n (by simp)) om on

/-! ### The reference layout -/

theorem Configuration.reference_modules_writable : ∀ m ∈ Configuration.reference.modules, m.readOnly = false := by decide

theorem Configuration.readOnly_eq_false {c : Configuration} (h : ∀ m ∈ c.modules, m.readOnly = false) (a : Nat) :
    c.readOnly a = false := by
  unfold Configuration.readOnly
  split
  next m hm => exact h m (Layout.owner_mem hm).1
  next => rfl

/-- Settles O11: the tiling by counting the addresses of the modules, the failures to build from the constraints that every
configuration meets. -/
theorem modulesTileTheBus : Obligations.ModulesTileTheBus := by
  refine ⟨fun c => ?_, fun _ => Layout.build_eq_none_of_empty, fun _ _ => Layout.build_eq_none_of_misaligned,
    fun _ _ _ _ _ _ _ => Layout.build_eq_none_of_overlap, Layout.build_toLayout Configuration.reference, by decide,
    Configuration.readOnly_eq_false Configuration.reference_modules_writable⟩
  obtain ⟨hne, haligned, -⟩ := c.constraints
  exact ⟨hne, haligned, rfl, c.cap_bounds.1, c.cap_bounds.2, fun _ => c.exists_unique_owner,
    fun _ => c.owner_eq_none_of_cap_le⟩

end Sys2Proof
end

section
/-! PROOFS of O44, O8, O35, O45 and O57 (10_state.md). One inversion lemma says what an `Exec` block can change besides the
general registers and `pc`; who may write what and what every step keeps are read off it. -/

namespace Sys2Proof

/-- `BOOT_VRAM` assigns offsets 0 to 6, and from 16 on inside the VRAM module, only (R381). -/
theorem Configuration.resetByte_eq_zero (c : Configuration) {a : Nat}
    (h : a < c.vramBase ∨ (c.vramBase + 7 ≤ a ∧ a < c.vramBase + 16) ∨ c.vramBase + c.vramSize ≤ a) :
    c.resetByte a = 0 := by
  have := c.vram_bounds
  refine if_neg fun hb => ?_
  simp only [Configuration.bootDomain, Bool.and_eq_true, Bool.or_eq_true, decide_eq_true_eq] at hb
  omega

end Sys2Proof

namespace Sys2Proof.Machine

open Sys2Proof.Safety

/-! ### What an instruction can change -/

/-- What the `Exec` block of an instruction can leave, from `s`: in every case other values of `pc`, and one more change, of
the general registers, of `mem`, of memory, of `ret` or of `int`, the last four for a few instructions only. -/
inductive ExecEffect (s : State) : Instr → State → Prop
  | registers {i : Instr} (regs : Vector Byte 16) (pc : Addr) : ExecEffect s i { s with regs := regs, pc := pc }
  | pointer {i : Instr} (p pc : Addr) (hi : writesMem i = true) : ExecEffect s i { s with mem := p, pc := pc }
  | stored {i : Instr} (a : Nat) (bs : List Byte) (pc : Addr) (hi : writesMemory i = true) :
    ExecEffect s i { s.storeBytes a bs with pc := pc }
  | called (target : Addr) (back : Nat) (pc : Addr) :
    ExecEffect s (.call target) { s with ret := wrap s.config back, pc := pc }
  | returned (pc : Addr) : ExecEffect s .ret { s with ret := 0, pc := pc }
  | returnedFromInterrupt (pc : Addr) : ExecEffect s .rint { s with int := 0, pc := pc }

/-- Reading arguments moves `pc` only (R113). -/
theorem ExecEffect.readArgs {i : Instr} (s : State) (k : Nat) : ExecEffect s i (s.readArgs k) := .registers s.regs _

theorem ExecEffect.putResult {i : Instr} (s : State) (k : Nat) (d : Operand) (w : Width) (v : Option (BitVec w.bits)) :
    ExecEffect s i ((s.readArgs k).putResult d w v) := by
  unfold State.putResult
  split
  · exact .registers _ _
  · exact .readArgs s k

theorem ExecEffect.bitwiseReg {i : Instr} (f : Byte → Byte → Byte) (ra rb : Operand) (s : State) :
    ExecEffect s i (bitwiseReg f ra rb s) := by
  rw [bitwiseReg_eq]; exact .putResult s 2 ra .w8 _

theorem ExecEffect.bitwiseOne {i : Instr} (k : Nat) (f : Byte → Byte) (ra : Operand) (s : State) :
    ExecEffect s i (bitwiseOne k f ra s) := by
  rw [bitwiseOne_eq]; exact .putResult s k ra .w8 _

/-- A load-immediate writes the pointer only when its target is `mem` (R200). -/
theorem ExecEffect.loadImmediate {i : Instr} (w : Width) (ra : Operand) (imm : BitVec w.bits) (p : Addr) (s : State)
    (hi : ra = .mem → writesMem i = true) : ExecEffect s i (loadImmediate w ra imm p s) := by
  unfold Machine.loadImmediate
  split
  · exact .pointer p _ (hi rfl)
  · exact .putResult s (1 + w.bytes) ra w _

theorem ExecEffect.storeThrough {i : Instr} (w : Width) (ra : Operand) (s : State) (hi : writesMemory i = true) :
    ExecEffect s i (storeThrough w ra s) := by
  unfold Machine.storeThrough
  split
  next v _ =>
    rcases memWrite_frame (s.readArgs 1) s.mem.toNat w v with h | h <;> rw [h]
    · exact .readArgs s 1
    · exact .stored _ _ _ hi
  next => exact .readArgs s 1

theorem ExecEffect.branch {i : Instr} (c : Cond) (w : Width) (ra rb : Operand) (target : Addr) (s : State) :
    ExecEffect s i (branch c w ra rb target s) := by
  unfold Machine.branch
  split
  · exact .registers s.regs _
  · exact .readArgs s 4

/-- Every instruction completes, with one of these effects (R300, R25 to R27, R62). -/
theorem exec_effect (i : Instr) (s : State) : ∃ t, exec i s = .next t ∧ ExecEffect s i t := by
  cases i with
  | nop => exact ⟨_, rfl, .registers s.regs s.pc⟩
  | nopi imm => exact ⟨_, rfl, .readArgs s 1⟩
  | and ra rb | or ra rb | xor ra rb => exact ⟨_, rfl, .bitwiseReg _ ra rb s⟩
  | not ra => exact ⟨_, rfl, .bitwiseOne 1 _ ra s⟩
  | andi ra imm | ori ra imm | xori ra imm | shl ra imm | shr ra imm => exact ⟨_, rfl, .bitwiseOne 2 _ ra s⟩
  | li8 ra imm | lui8 ra imm => exact ⟨_, rfl, .loadImmediate .w8 ra imm _ s fun h => h ▸ rfl⟩
  | li16 ra imm | lui16 ra imm => exact ⟨_, rfl, .loadImmediate .w16 ra imm _ s fun h => h ▸ rfl⟩
  | li32 ra imm | lui32 ra imm => exact ⟨_, rfl, .loadImmediate .w32 ra imm _ s fun h => h ▸ rfl⟩
  | lm8 ra | lm16 ra | lm32 ra => exact ⟨_, rfl, .putResult s 1 ra _ _⟩
  | sm8 ra | sm16 ra | sm32 ra => exact ⟨_, rfl, .storeThrough _ ra s rfl⟩
  | mov8 ra rb | mov16 ra rb | mov32 ra rb => exact ⟨_, rfl, .putResult s 2 ra _ _⟩
  | add8 rd ra rb | add16 rd ra rb | add32 rd ra rb | addu8 rd ra rb | addu16 rd ra rb | addu32 rd ra rb
  | sub8 rd ra rb | sub16 rd ra rb | sub32 rd ra rb | subu8 rd ra rb | subu16 rd ra rb | subu32 rd ra rb
  | mul8 rd ra rb | mul16 rd ra rb | mul32 rd ra rb | mulu8 rd ra rb | mulu16 rd ra rb | mulu32 rd ra rb
  | div8 rd ra rb | div16 rd ra rb | div32 rd ra rb | divu8 rd ra rb | divu16 rd ra rb | divu32 rd ra rb =>
    exact ⟨_, rfl, .putResult s 3 rd _ _⟩
  | addi8 rd ra imm | addi16 rd ra imm | addi32 rd ra imm | addui8 rd ra imm | addui16 rd ra imm | addui32 rd ra imm
  | subi8 rd ra imm | subi16 rd ra imm | subi32 rd ra imm | subui8 rd ra imm | subui16 rd ra imm | subui32 rd ra imm
  | muli8 rd ra imm | muli16 rd ra imm | muli32 rd ra imm | mului8 rd ra imm | mului16 rd ra imm | mului32 rd ra imm
  | divi8 rd ra imm | divi16 rd ra imm | divi32 rd ra imm | divui8 rd ra imm | divui16 rd ra imm | divui32 rd ra imm =>
    exact ⟨_, rfl, .putResult s (2 + _) rd _ _⟩
  | beq8 ra rb target | beq16 ra rb target | beq32 ra rb target | blt8 ra rb target | blt16 ra rb target
  | blt32 ra rb target | ble8 ra rb target | ble16 ra rb target | ble32 ra rb target | bgt8 ra rb target
  | bgt16 ra rb target | bgt32 ra rb target | bge8 ra rb target | bge16 ra rb target | bge32 ra rb target
  | bne8 ra rb target | bne16 ra rb target | bne32 ra rb target => exact ⟨_, rfl, .branch _ _ ra rb target s⟩
  | mvm src dst len => exact ⟨_, rfl, .stored _ _ _ rfl⟩
  | clm addr len val => exact ⟨_, rfl, .stored _ _ _ rfl⟩
  | jmp target => exact ⟨_, rfl, .registers s.regs _⟩
  | call target => exact ⟨_, rfl, .called target _ _⟩
  | ret => exact ⟨_, rfl, .returned _⟩
  | rint => exact ⟨_, rfl, .returnedFromInterrupt _⟩

/-- The inversion of `exec`: a next state comes about in one of these ways. -/
theorem ExecEffect.of_exec {i : Instr} {s t : State} (h : exec i s = .next t) : ExecEffect s i t := by
  obtain ⟨u, hu, e⟩ := exec_effect i s
  obtain rfl : t = u := Host.Outcome.next.inj (h.symm.trans hu)
  exact e

theorem ExecEffect.config_eq {i : Instr} {s t : State} (e : ExecEffect s i t) : t.config = s.config := by
  cases e <;> rfl

/-- Settles O35: read off the effect of the instruction, case by case; that nothing reads at or above `CAP` is R57. -/
theorem whoMayWriteWhat : Obligations.WhoMayWriteWhat := by
  intro i s t h
  have e := ExecEffect.of_exec h
  have beyond : ∀ a, s.config.cap ≤ a → t.byteAt a = 0 := fun a ha => t.byteAt_beyond a (by rwa [e.config_eq])
  cases e with
  | registers regs pc =>
    exact ⟨absurd rfl, absurd rfl, absurd rfl, absurd (SameMemory.of_bus rfl), beyond⟩
  | pointer p pc hi =>
    exact ⟨fun _ => hi, absurd rfl, absurd rfl, absurd (SameMemory.of_bus rfl), beyond⟩
  | stored a bs pc hi => exact ⟨absurd rfl, absurd rfl, absurd rfl, fun _ => hi, beyond⟩
  | called target back pc =>
    exact ⟨absurd rfl, fun _ => .inr ⟨target, rfl⟩, absurd rfl, absurd (SameMemory.of_bus rfl), beyond⟩
  | returned pc => exact ⟨absurd rfl, fun _ => .inl rfl, absurd rfl, absurd (SameMemory.of_bus rfl), beyond⟩
  | returnedFromInterrupt pc =>
    exact ⟨absurd rfl, absurd rfl, fun _ => rfl, absurd (SameMemory.of_bus rfl), beyond⟩

/-! ### The register views -/

/-- Settles O8, from what `gwrite` can do to one register. -/
theorem registerViewsAliasBytes : Obligations.RegisterViewsAliasBytes := by
  intro s n w v hn
  refine ⟨s.gread_gwrite n w v hn, fun i hi => ?_, fun m hm hout => ?_, fun i hi => s.byte_gread n w i hi, rfl,
    SameMemory.of_bus rfl, SameSpecials.refl s, SameHidden.refl s⟩
  · rw [s.reg_gwrite n w v (n + i) (by omega), if_pos (by omega), Nat.add_sub_cancel_left]
  · rw [s.reg_gwrite n w v m hm, if_neg (by omega)]

/-! ### The state after reset -/

theorem State.zero_lt_cap (s : State) : (0 : Addr).toNat < s.config.cap := by
  have := s.config.cap_bounds
  show 0 < s.config.cap
  omega

/-- Nothing is listed in either memory, every address is 0 and the scan stands at the first pixel. -/
theorem inv_powerOn (c : Configuration) : Inv (State.powerOn c) where
  bus := State.canonical_powerOn c
  frame := rfl
  pc := (State.powerOn c).zero_lt_cap
  ret := (State.powerOn c).zero_lt_cap
  int := (State.powerOn c).zero_lt_cap
  column := Nat.succ_pos _
  row := Nat.succ_pos _
  frames := Nat.succ_pos _
  lineEnd := fun _ => rfl
  frameEnd := fun _ => rfl
  secondEnd := fun _ => rfl
  queue := List.not_mem_nil

/-- Settles O45: `State.reset` is the power-on state of the reference configuration. -/
theorem invariantHoldsAtReset : Obligations.InvariantHoldsAtReset := ⟨inv_powerOn, inv_powerOn _⟩

theorem State.reg_powerOn (c : Configuration) (n : Nat) (hn : n < 16) : (State.powerOn c).reg n = 0 := by
  simp [State.reg, State.powerOn, hn]

theorem State.byteAt_powerOn_eq_zero (c : Configuration) {a : Nat}
    (h : a < c.vramBase ∨ (c.vramBase + 7 ≤ a ∧ a < c.vramBase + 16) ∨ c.vramBase + c.vramSize ≤ a) :
    (State.powerOn c).byteAt a = 0 := by
  unfold State.byteAt
  split
  · exact c.resetByte_eq_zero h
  · rfl

theorem leNat_replicate_zero : ∀ n : Nat, leNat (List.replicate n 0) = 0
  | 0 => rfl
  | n + 1 => by rw [List.replicate_succ, leNat, leNat_replicate_zero n]; rfl

/-- A scalar whose bytes are all 0 reads 0. -/
theorem State.memRead_eq_zero (s : State) (a : Nat) (w : Width) (h : ∀ i, i < w.bytes → s.byteAt (a + i) = 0) :
    s.memRead a w = 0 := by
  have hb : s.bytesAt a w.bytes = List.replicate w.bytes 0 :=
    List.eq_replicate_iff.2 ⟨s.bytesAt_length a w.bytes, by simpa [State.bytesAt] using h⟩
  rw [State.memRead, hb, leNat_replicate_zero]; rfl

/-- Settles O57: the vectors and the tile bank lie where `BOOT_VRAM` assigns nothing. -/
theorem resetValues : Obligations.ResetValues := by
  refine ⟨rfl, fun c => ?_⟩
  have hv := c.vram_bounds
  have hk := c.keyram_bounds
  have vector : ∀ o, 7 ≤ o → o + 2 ≤ 16 → (State.powerOn c).memRead (c.vramBase + o) .w16 = 0 := fun o h7 h16 =>
    State.memRead_eq_zero _ _ _ fun i hi => State.byteAt_powerOn_eq_zero c (by simp only [Width.bytes] at hi; omega)
  have keyVector : (State.powerOn c).memRead c.keyramBase .w16 = 0 :=
    State.memRead_eq_zero _ _ _ fun i hi => State.byteAt_powerOn_eq_zero c (by simp only [Width.bytes] at hi; omega)
  have bank : (State.powerOn c).vramByte 7 = 0 :=
    (if_pos (show 7 < c.vramSize by omega)).trans (State.byteAt_powerOn_eq_zero c (a := c.vramBase + 7) (by omega))
  exact ⟨rfl, State.reg_powerOn c, rfl, rfl, rfl, rfl, rfl, rfl, rfl, rfl, rfl, rfl, rfl, rfl, rfl, fun _ => rfl, rfl, rfl,
    fun _ => State.byteAt_powerOn_eq_zero c, vector 8 (by omega) (by omega), vector 10 (by omega) (by omega),
    vector 12 (by omega) (by omega), keyVector, bank⟩

end Sys2Proof.Machine

namespace Sys2Proof.Safety

open Sys2Proof.Machine

/-! ### The invariant through the host's actions -/

theorem Inv.hostAction {s : State} (h : Inv s) : ∀ a : HostAction, Inv (s.hostAction a)
  | .setKey code isDown => { h with bus := s.canonical_setKey code isDown h.bus }
  | .loadProgram bytes addr =>
    { h with bus := s.canonical_loadProgram bytes addr h.bus, pc := wrap_lt _ _, ret := s.zero_lt_cap, int := s.zero_lt_cap }
  | .reboot =>
    { h with
      bus := s.canonical_reboot
      pc := s.zero_lt_cap
      ret := s.zero_lt_cap
      int := s.zero_lt_cap
      queue := List.not_mem_nil }
  | .pause => { h with }
  | .resume => { h with }

theorem Inv.takeHostActions {s : State} (h : Inv s) : Inv s.takeHostActions :=
  State.hostActions_induct Inv (fun _ a ht => ht.hostAction a) _ { s with host := s.host.tail } { h with }

/-! ### The invariant through the devices -/

/-- A request for address 0 is dropped, so the queue never holds one (R35, R342). -/
theorem zero_not_mem_request_iq {s : State} (h : (0 : Addr) ∉ s.iq) (v : Addr) : (0 : Addr) ∉ (s.request v).iq := by
  rw [State.request_iq]
  split
  · exact h
  next hv => exact fun hm => (List.mem_append.1 hm).elim h fun h0 => hv (List.mem_singleton.1 h0).symm

theorem Inv.keyboardCycle {s : State} (h : Inv s) : Inv (keyboardCycle s) :=
  { h with
    queue := by
      rw [keyboardCycle_iq]
      split
      · exact zero_not_mem_request_iq h.queue _
      · exact h.queue }

/-- A pixel unit moves to the next column, or to column 0 and the h-blank (R334). -/
theorem Inv.pixelUnit {s : State} (h : Inv s) : Inv (pixelUnit Config.video s) :=
  { h with
    frame := Memory.wf_store _ _ _ _ _ h.frame
    column := by have := h.column; rw [pixelUnit_vx]; split <;> omega
    lineEnd := by rw [pixelUnit_vphase, pixelUnit_vx]; split <;> simp
    frameEnd := by rw [pixelUnit_vphase]; split <;> simp
    secondEnd := by rw [pixelUnit_vphase]; split <;> simp }

/-- An h-blank unit moves to the next scanline, or to scanline 0 and the v-blank (R335). -/
theorem Inv.hblankUnit {s : State} (h : Inv s) (hp : s.vphase = .hblank) : Inv (hblankUnit Config.video s) :=
  { h with
    row := by have := h.row; rw [hblankUnit_vy]; split <;> omega
    lineEnd := fun _ => h.lineEnd (by simp [hp])
    frameEnd := by rw [hblankUnit_vphase, hblankUnit_vy]; split <;> simp
    secondEnd := by rw [hblankUnit_vphase]; split <;> simp
    queue := zero_not_mem_request_iq h.queue _ }

/-- A v-blank unit moves to the next frame, or to frame 0 and the sync (R336). -/
theorem Inv.vblankUnit {s : State} (h : Inv s) (hp : s.vphase = .vblank) : Inv (vblankUnit Config.video s) :=
  { h with
    frames := by have := h.frames; rw [vblankUnit_vframe]; split <;> omega
    lineEnd := fun _ => h.lineEnd (by simp [hp])
    frameEnd := fun _ => h.frameEnd (.inl hp)
    secondEnd := by rw [vblankUnit_vphase, vblankUnit_vframe]; split <;> simp
    queue := zero_not_mem_request_iq h.queue _ }

/-- A sync unit goes on with a pixel (R337). -/
theorem Inv.syncUnit {s : State} (h : Inv s) : Inv (syncUnit Config.video s) :=
  { h with
    lineEnd := fun hp => absurd rfl hp
    frameEnd := by simp
    secondEnd := by simp
    queue := zero_not_mem_request_iq h.queue _ }

theorem Inv.videoUnit {s : State} (h : Inv s) : Inv (videoUnit Config.video s) := by
  unfold Machine.videoUnit
  split
  · exact h.pixelUnit
  next hp => exact h.hblankUnit hp
  next hp => exact h.vblankUnit hp
  · exact h.syncUnit

theorem Inv.videoCycle {s : State} (h : Inv s) : Inv (videoCycle Config.video s) :=
  videoCycle_induct Config.video Inv (fun _ _ h => h.videoUnit) (fun _ h => { h with }) s h

theorem Inv.arbitrate {s : State} (h : Inv s) (p : Bool) : Inv (arbitrate p s) := by
  rcases arbitrate_cases p s with ⟨e, -⟩ | ⟨front, rest, hq, -, e⟩ <;> rw [e]
  · exact h
  · have hrest : (0 : Addr) ∉ rest := fun hm => h.queue (hq ▸ List.mem_cons_of_mem front hm)
    exact { h with queue := hrest }

theorem Inv.finishCycle {s : State} (h : Inv s) (p : Bool) : Inv (finishCycle Config.video p s) :=
  { h.videoCycle.arbitrate p with }

/-! ### The invariant through the CPU -/

theorem Inv.nextOpcode {s : State} (h : Inv s) : Inv s.nextOpcode := { h with pc := wrap_lt _ _ }

/-- The increment after the `Exec` block brings `pc` below `CAP`, wherever the block left it (R24, R111). -/
theorem Inv.nextOpcode_of_effect {i : Instr} {s t : State} (h : Inv s) (e : ExecEffect s i t) : Inv t.nextOpcode := by
  cases e with
  | registers regs pc => exact { h with pc := wrap_lt _ _ }
  | pointer p pc => exact { h with pc := wrap_lt _ _ }
  | stored a bs pc => exact { h with bus := s.canonical_storeBytes a bs h.bus, pc := wrap_lt _ _ }
  | called target back pc => exact { h with pc := wrap_lt _ _, ret := wrap_lt _ _ }
  | returned pc => exact { h with pc := wrap_lt _ _, ret := s.zero_lt_cap }
  | returnedFromInterrupt pc => exact { h with pc := wrap_lt _ _, int := s.zero_lt_cap }

/-- Interrupt entry saves a legal `pc` in `int` and goes to the latched address modulo `CAP` (R325). -/
theorem Inv.takeInterrupt {s : State} (h : Inv s) : Inv s.takeInterrupt :=
  { h with
    pc := by
      rw [State.takeInterrupt_pc]
      split
      · exact h.pc
      · exact wrap_lt _ _
    int := by
      rw [State.takeInterrupt_int]
      split
      · exact h.int
      · exact h.pc }

theorem Inv.complete {op : Byte} {s t : State} (h : Inv s) (ht : complete op s = .next t) : Inv t := by
  unfold Machine.complete at ht
  split at ht
  next i _ =>
    obtain ⟨u, hu, e⟩ := exec_effect i s
    rw [hu] at ht
    obtain rfl := Host.Outcome.next.inj ht
    exact (h.nextOpcode_of_effect e).takeInterrupt
  next =>
    obtain rfl := Host.Outcome.next.inj ht
    exact h.nextOpcode

theorem Inv.cpuCycle {cost : Byte → Nat} {s t : State} (h : Inv s) (ht : cpuCycle cost s = .next t) : Inv t := by
  unfold Machine.cpuCycle at ht
  split at ht
  · have hs : Inv { s with cop := s.currentOpcode, crem := 0 } := { h with }
    exact hs.complete ht
  · obtain rfl := Host.Outcome.next.inj ht
    exact { h with }

/-! ### The invariant through a whole cycle -/

theorem Inv.cycle {cost : Byte → Nat} {p : Bool} {s t : State} (h : Inv s) (ht : cycle cost Config.video p s = .next t) :
    Inv t := by
  unfold Machine.cycle at ht
  split at ht
  next u hu =>
    obtain rfl := Host.Outcome.next.inj ht
    exact (h.keyboardCycle.cpuCycle hu).finishCycle p
  all_goals cases ht

/-- Settles O44, phase by phase: the host's actions, keyboard, CPU, video generator, arbitration. -/
theorem invariantKeptByEveryStep : Obligations.InvariantKeptByEveryStep := fun _ _ h ht => h.takeHostActions.cycle ht

end Sys2Proof.Safety
end

section
/-! PROOFS of O9, O10, O26 and O27 (20_memory.md). The laws of memory say what a scalar write, a block copy and a block
fill do to each byte; what is left here is when a scalar write does nothing, and that a value is told by its bytes. -/

namespace Sys2Proof.Machine

open Sys2Proof.Safety

/-! ### Scalar reads -/

theorem bits_eq_mul_bytes (w : Width) : w.bits = 8 * w.bytes := by cases w <;> rfl

/-- A value is told by its bytes: bit `j` is bit `j % 8` of byte `j / 8`. -/
theorem eq_of_bytes_eq {w : Width} {x y : BitVec w.bits}
    (h : ∀ i, i < w.bytes → x.extractLsb' (8 * i) 8 = y.extractLsb' (8 * i) 8) : x = y := by
  apply BitVec.eq_of_getLsbD_eq
  intro j hj
  have hi : j / 8 < w.bytes := Nat.div_lt_of_lt_mul (bits_eq_mul_bytes w ▸ hj)
  have hbit : 8 * (j / 8) + j % 8 = j := Nat.div_add_mod j 8
  have hbyte := congrArg (fun b => b.getLsbD (j % 8)) (h (j / 8) hi)
  simpa [BitVec.getLsbD_extractLsb', hbit, Nat.mod_lt j] using hbyte

/-- A byte below `CAP` is the byte of `M` (R55). -/
theorem State.byteAt_below (s : State) (a : Nat) (h : a < s.config.cap) :
    s.byteAt a = Memory.read s.config.resetByte s.bus a := if_pos h

/-- Settles O9: the bytes of a scalar read, and what the bus gives below `CAP` and beyond it. -/
theorem scalarReadsAreLittleEndian : Obligations.ScalarReadsAreLittleEndian := fun s a w i hi =>
  ⟨s.byte_memRead a w i hi, s.byteAt_beyond (a + i), s.byteAt_below (a + i)⟩

/-! ### Scalar writes -/

/-- The module an address lies in says whether it is read-only (R51, R56). -/
theorem readOnly_of_owns (c : Configuration) {m : Module} {a : Nat} (hm : m ∈ c.modules) (ho : m.owns a = true) :
    c.readOnly a = m.readOnly := by
  rw [Configuration.readOnly, c.owner_eq hm ho]

theorem State.memWrite_beyond (s : State) (a : Nat) (w : Width) (v : BitVec w.bits) (h : s.config.cap ≤ a) :
    s.memWrite a w v = s := if_pos h

theorem State.memWrite_readOnly (s : State) (a : Nat) (w : Width) (v : BitVec w.bits) (h : s.config.readOnly a = true) :
    s.memWrite a w v = s := by
  rw [State.memWrite, if_pos h, ite_self]

/-- A scalar stored whole reads as it was written (R55, R56). -/
theorem State.memRead_memWrite (s : State) (a : Nat) (w : Width) (v : BitVec w.bits) (hs : canonical s)
    (hcap : a + w.bytes ≤ s.config.cap) (hw : s.config.readOnly a = false) : (s.memWrite a w v).memRead a w = v := by
  apply eq_of_bytes_eq
  intro i hi
  have hstored : storedByte s.config.cap a w v (a + i) = some (v.extractLsb' (8 * i) 8) := by
    rw [storedByte, if_pos (by omega), Nat.add_sub_cancel_left]
  rw [State.byte_memRead _ a w i hi, s.byteAt_memWrite a w v hs, hw, if_neg Bool.false_ne_true, hstored, Option.getD_some]

/-- A scalar write touches memory only. -/
theorem State.memWrite_onlyMemory (s : State) (a : Nat) (w : Width) (v : BitVec w.bits) :
    SameRegs s (s.memWrite a w v) ∧ SameSpecials s (s.memWrite a w v) ∧ SameHidden s (s.memWrite a w v) ∧
      (s.memWrite a w v).pc = s.pc := by
  rcases memWrite_frame s a w v with h | h <;> rw [h] <;>
    exact ⟨SameRegs.refl s, SameSpecials.refl s, SameHidden.refl s, rfl⟩

/-- Settles O10, from what a scalar write can do to a byte and the two cases in which it does nothing. -/
theorem scalarWritesHonourOwnerAndCap : Obligations.ScalarWritesHonourOwnerAndCap := by
  intro s a w v hs
  refine ⟨fun _ hm ho => readOnly_of_owns s.config hm ho, s.memWrite_beyond a w v, s.memWrite_readOnly a w v,
    fun _ hw x => ?_, s.memRead_memWrite a w v hs, s.memWrite_onlyMemory a w v⟩
  rw [s.byteAt_memWrite a w v hs, hw, if_neg Bool.false_ne_true]

/-! ### Block operations -/

/-- Settles O26: `mvm` is a block copy after its five argument bytes (R60, R231). -/
theorem blockCopyResults : Obligations.BlockCopyResults := fun s src dst len hs =>
  ⟨rfl, _, rfl, stored_bulkCopy s 5 src.toNat dst.toNat len.toNat hs⟩

/-- Settles O27: `clm` is a block fill after its four argument bytes (R61, R232). -/
theorem blockFillResults : Obligations.BlockFillResults := fun s addr len val hs =>
  ⟨rfl, _, rfl, stored_bulkClear s 4 addr.toNat val len.toNat hs⟩

end Sys2Proof.Machine
end

section
/-! PROOFS of O1, O2, O3, O6, O33, O5 and O7 (30_encoding.md). The decoder reads formats and the encoder writes
instructions; the relation `Form.Spells` stands between them. Reading a format inverts it format by format, and the opcode
map gives every instruction its format and opcode byte. -/

namespace Sys2Proof

/-! ### How a format spells its arguments -/

/-- `f.Spells reg i bytes ops`: the format `f` makes the instruction `i`, whose argument bytes are `bytes` and whose register
operands are `ops`, the operand bytes as `reg` gives them (R82 to R84). -/
inductive Form.Spells (reg : Operand → Byte) : Form → Instr → List Byte → List Operand → Prop
  | n (i) : Spells reg (.n i) i [] []
  | i8 (mk imm) : Spells reg (.i8 mk) (mk imm) [imm] []
  | r (mk ra) : Spells reg (.r mk) (mk ra) [reg ra] [ra]
  | rr (mk ra rb) : Spells reg (.rr mk) (mk ra rb) [reg ra, reg rb] [ra, rb]
  | ri8 (mk ra imm) : Spells reg (.ri8 mk) (mk ra imm) [reg ra, imm] [ra]
  | ri16 (mk ra imm) : Spells reg (.ri16 mk) (mk ra imm) (reg ra :: leBytes 2 imm.toNat) [ra]
  | ri32 (mk ra imm) : Spells reg (.ri32 mk) (mk ra imm) (reg ra :: leBytes 4 imm.toNat) [ra]
  | rrr (mk rd ra rb) : Spells reg (.rrr mk) (mk rd ra rb) [reg rd, reg ra, reg rb] [rd, ra, rb]
  | rri8 (mk rd ra imm) : Spells reg (.rri8 mk) (mk rd ra imm) [reg rd, reg ra, imm] [rd, ra]
  | rri16 (mk rd ra imm) : Spells reg (.rri16 mk) (mk rd ra imm) (reg rd :: reg ra :: leBytes 2 imm.toNat) [rd, ra]
  | rri32 (mk rd ra imm) : Spells reg (.rri32 mk) (mk rd ra imm) (reg rd :: reg ra :: leBytes 4 imm.toNat) [rd, ra]
  | rra (mk ra rb target) : Spells reg (.rra mk) (mk ra rb target) (reg ra :: reg rb :: leBytes 2 target.toNat) [ra, rb]
  | a (mk target) : Spells reg (.a mk) (mk target) (leBytes 2 target.toNat) []
  | aai8 (mk src dst len) :
    Spells reg (.aai8 mk) (mk src dst len) (leBytes 2 src.toNat ++ leBytes 2 dst.toNat ++ [len]) []
  | ai8i8 (mk addr len val) : Spells reg (.ai8i8 mk) (mk addr len val) (leBytes 2 addr.toNat ++ [len, val]) []

/-- How many argument bytes a format has (R83). -/
def Form.argCount : Form → Nat
  | .n _ => 0
  | .i8 _ | .r _ => 1
  | .rr _ | .ri8 _ | .a _ => 2
  | .ri16 _ | .rrr _ | .rri8 _ => 3
  | .rri16 _ | .rra _ | .ai8i8 _ => 4
  | .ri32 _ | .aai8 _ => 5
  | .rri32 _ => 6

theorem Form.argCount_le (f : Form) : f.argCount ≤ 6 := by
  cases f <;> simp only [argCount] <;> omega

theorem Form.Spells.length_eq {reg : Operand → Byte} {f : Form} {i : Instr} {bytes : List Byte} {ops : List Operand}
    (h : f.Spells reg i bytes ops) : bytes.length = f.argCount := by
  cases h <;> rfl

/-- The byte a configuration spells an operand with (R6, R90). -/
def Configuration.operandByte (c : Configuration) (o : Operand) : Byte := renumber c.regmap o.toByte

@[simp] theorem Configuration.operandByte_operand (c : Configuration) (b : Byte) : c.operandByte (c.operand b) = b :=
  c.toByte_operand b

@[simp] theorem Configuration.wellFormed_operand (c : Configuration) (b : Byte) : (c.operand b).wellFormed = true :=
  c.operand_wellFormed b

theorem Instr.wellFormed_iff (i : Instr) : i.wellFormed = true ↔ ∀ o ∈ i.operands, o.wellFormed = true := List.all_eq_true

/-- A format reads back what it spells, whatever follows. -/
theorem Form.Spells.read_append {c : Configuration} {f : Form} {i : Instr} {bytes : List Byte} {ops : List Operand}
    (h : f.Spells c.operandByte i bytes ops) (hops : ∀ o ∈ ops, o.wellFormed = true) (rest : List Byte) :
    f.read c.operand (bytes ++ rest) = some i := by
  have back : ∀ o ∈ ops, c.operand (c.operandByte o) = o := fun o ho => c.operand_toByte o (hops o ho)
  cases h with
  | n => rfl
  | i8 => rfl
  | r mk ra => exact congrArg (some <| mk ·) (back ra (by simp))
  | rr mk ra rb => exact congrArg₂ (some <| mk · ·) (back ra (by simp)) (back rb (by simp))
  | ri8 mk ra imm => exact congrArg (some <| mk · imm) (back ra (by simp))
  | ri16 mk ra imm => exact congrArg₂ (some <| mk · ·) (back ra (by simp)) (immediate16 imm)
  | ri32 mk ra imm => exact congrArg₂ (some <| mk · ·) (back ra (by simp)) (immediate32 imm)
  | rrr mk rd ra rb =>
    exact congr (congrArg₂ (some <| mk · · ·) (back rd (by simp)) (back ra (by simp))) (back rb (by simp))
  | rri8 mk rd ra imm => exact congrArg₂ (some <| mk · · imm) (back rd (by simp)) (back ra (by simp))
  | rri16 mk rd ra imm =>
    exact congr (congrArg₂ (some <| mk · · ·) (back rd (by simp)) (back ra (by simp))) (immediate16 imm)
  | rri32 mk rd ra imm =>
    exact congr (congrArg₂ (some <| mk · · ·) (back rd (by simp)) (back ra (by simp))) (immediate32 imm)
  | rra mk ra rb target =>
    exact congr (congrArg₂ (some <| mk · · ·) (back ra (by simp)) (back rb (by simp))) (immediate16 target)
  | a mk target => exact congrArg (some <| mk ·) (immediate16 target)
  | aai8 mk src dst len => exact congrArg₂ (some <| mk · · len) (immediate16 src) (immediate16 dst)
  | ai8i8 mk addr len val => exact congrArg (some <| mk · len val) (immediate16 addr)

/-- What a format reads is spelled by the bytes it is read from, and its operands are well-formed. -/
theorem Form.exists_spells_of_read {c : Configuration} {f : Form} {i : Instr} {args : List Byte}
    (h : f.read c.operand args = some i) : ∃ bytes ops rest,
      f.Spells c.operandByte i bytes ops ∧ (∀ o ∈ ops, o.wellFormed = true) ∧ args = bytes ++ rest := by
  cases f <;> simp only [Form.read] at h
  case n => cases h; exact ⟨_, _, args, .n _, by simp, by simp⟩
  all_goals split at h <;> cases h
  next rest => exact ⟨_, _, rest, .i8 _ _, by simp, by simp⟩
  next rest => exact ⟨_, _, rest, .r _ _, by simp, by simp⟩
  next rest => exact ⟨_, _, rest, .rr _ _ _, by simp, by simp⟩
  next rest => exact ⟨_, _, rest, .ri8 _ _ _, by simp, by simp⟩
  next rest => exact ⟨_, _, rest, .ri16 _ _ _, by simp, by simp [-BitVec.toNat_ofNat, bytes16]⟩
  next rest => exact ⟨_, _, rest, .ri32 _ _ _, by simp, by simp [-BitVec.toNat_ofNat, bytes32]⟩
  next rest => exact ⟨_, _, rest, .rrr _ _ _ _, by simp, by simp⟩
  next rest => exact ⟨_, _, rest, .rri8 _ _ _ _, by simp, by simp⟩
  next rest => exact ⟨_, _, rest, .rri16 _ _ _ _, by simp, by simp [-BitVec.toNat_ofNat, bytes16]⟩
  next rest => exact ⟨_, _, rest, .rri32 _ _ _ _, by simp, by simp [-BitVec.toNat_ofNat, bytes32]⟩
  next rest => exact ⟨_, _, rest, .rra _ _ _ _, by simp, by simp [-BitVec.toNat_ofNat, bytes16]⟩
  next rest => exact ⟨_, _, rest, .a _ _, by simp, by simp [-BitVec.toNat_ofNat, bytes16]⟩
  next rest => exact ⟨_, _, rest, .aai8 _ _ _ _, by simp, by simp [-BitVec.toNat_ofNat, bytes16]⟩
  next rest => exact ⟨_, _, rest, .ai8i8 _ _ _ _, by simp, by simp [-BitVec.toNat_ofNat, bytes16]⟩

/-! ### The opcode map and the encoder -/

/-- The encoder writes every row of the opcode map as the row says (R83, R86). -/
theorem encodeWith_of_row : ∀ row ∈ opcodeTable, ∀ (op : Byte → Byte) (reg : Operand → Byte) (i : Instr)
    (bytes : List Byte) (ops : List Operand), row.2.2.Spells reg i bytes ops →
      encodeWith op reg i = op row.1 :: bytes ∧ i.operands = ops := by
  rw [← List.forall_iff_forall_mem]
  and_intros
  all_goals
    rintro op reg i bytes ops ⟨⟩
    exact ⟨rfl, rfl⟩

/-- Every instruction stands in a row of the opcode map (R86). -/
theorem Instr.exists_form (reg : Operand → Byte) (i : Instr) : ∃ b f bytes, f.Spells reg i bytes i.operands ∧
    (∀ op, encodeWith op reg i = op b :: bytes) ∧ formIn b opcodeTable = some f := by
  cases i with
  | nop | ret | rint => exact ⟨_, _, _, .n _, fun _ => rfl, rfl⟩
  | nopi imm => exact ⟨_, _, _, .i8 _ imm, fun _ => rfl, rfl⟩
  | not ra | lm8 ra | lm16 ra | lm32 ra | sm8 ra | sm16 ra | sm32 ra => exact ⟨_, _, _, .r _ ra, fun _ => rfl, rfl⟩
  | and ra rb | or ra rb | xor ra rb | mov8 ra rb | mov16 ra rb | mov32 ra rb =>
    exact ⟨_, _, _, .rr _ ra rb, fun _ => rfl, rfl⟩
  | andi ra imm | ori ra imm | xori ra imm | shl ra imm | shr ra imm | li8 ra imm | lui8 ra imm =>
    exact ⟨_, _, _, .ri8 _ ra imm, fun _ => rfl, rfl⟩
  | li16 ra imm | lui16 ra imm => exact ⟨_, _, _, .ri16 _ ra imm, fun _ => rfl, rfl⟩
  | li32 ra imm | lui32 ra imm => exact ⟨_, _, _, .ri32 _ ra imm, fun _ => rfl, rfl⟩
  | add8 rd ra rb | add16 rd ra rb | add32 rd ra rb | addu8 rd ra rb | addu16 rd ra rb | addu32 rd ra rb
  | sub8 rd ra rb | sub16 rd ra rb | sub32 rd ra rb | subu8 rd ra rb | subu16 rd ra rb | subu32 rd ra rb
  | mul8 rd ra rb | mul16 rd ra rb | mul32 rd ra rb | mulu8 rd ra rb | mulu16 rd ra rb | mulu32 rd ra rb
  | div8 rd ra rb | div16 rd ra rb | div32 rd ra rb | divu8 rd ra rb | divu16 rd ra rb | divu32 rd ra rb =>
    exact ⟨_, _, _, .rrr _ rd ra rb, fun _ => rfl, rfl⟩
  | addi8 rd ra imm | addui8 rd ra imm | subi8 rd ra imm | subui8 rd ra imm
  | muli8 rd ra imm | mului8 rd ra imm | divi8 rd ra imm | divui8 rd ra imm =>
    exact ⟨_, _, _, .rri8 _ rd ra imm, fun _ => rfl, rfl⟩
  | addi16 rd ra imm | addui16 rd ra imm | subi16 rd ra imm | subui16 rd ra imm
  | muli16 rd ra imm | mului16 rd ra imm | divi16 rd ra imm | divui16 rd ra imm =>
    exact ⟨_, _, _, .rri16 _ rd ra imm, fun _ => rfl, rfl⟩
  | addi32 rd ra imm | addui32 rd ra imm | subi32 rd ra imm | subui32 rd ra imm
  | muli32 rd ra imm | mului32 rd ra imm | divi32 rd ra imm | divui32 rd ra imm =>
    exact ⟨_, _, _, .rri32 _ rd ra imm, fun _ => rfl, rfl⟩
  | beq8 ra rb target | beq16 ra rb target | beq32 ra rb target | blt8 ra rb target | blt16 ra rb target
  | blt32 ra rb target | ble8 ra rb target | ble16 ra rb target | ble32 ra rb target | bgt8 ra rb target
  | bgt16 ra rb target | bgt32 ra rb target | bge8 ra rb target | bge16 ra rb target | bge32 ra rb target
  | bne8 ra rb target | bne16 ra rb target | bne32 ra rb target =>
    exact ⟨_, _, _, .rra _ ra rb target, fun _ => rfl, rfl⟩
  | jmp target | call target => exact ⟨_, _, _, .a _ target, fun _ => rfl, rfl⟩
  | mvm src dst len => exact ⟨_, _, _, .aai8 _ src dst len, fun _ => rfl, rfl⟩
  | clm addr len val => exact ⟨_, _, _, .ai8i8 _ addr len val, fun _ => rfl, rfl⟩

theorem exists_row_of_formIn {op : Byte} {f : Form} : ∀ {rows : List OpcodeRow}, formIn op rows = some f →
    ∃ row ∈ rows, row.1 = op ∧ row.2.2 = f
  | (o, name, g) :: rows, h => by
    rw [formIn] at h
    split at h
    next hop => exact ⟨(o, name, g), List.mem_cons_self, hop.symm, Option.some.inj h⟩
    next =>
      obtain ⟨row, hrow, hf⟩ := exists_row_of_formIn h
      exact ⟨row, List.mem_cons_of_mem _ hrow, hf⟩

/-- Inversion of the decoder: the opcode byte has a format, and the instruction is spelled in it by the bytes it was
decoded from. -/
theorem exists_form_of_decodeIn {c : Configuration} {op : Byte} {args : List Byte} {i : Instr}
    (h : decodeIn c (op :: args) = .ok i) : ∃ f bytes rest, formIn (c.opcode op) opcodeTable = some f ∧
      f.Spells c.operandByte i bytes i.operands ∧ i.wellFormed = true ∧ encodeIn c i = op :: bytes ∧
      args = bytes ++ rest := by
  simp only [decodeIn] at h
  split at h
  next => cases h
  next f hf =>
    split at h
    next j hj =>
      cases h
      obtain ⟨bytes, ops, rest, hspells, hops, hargs⟩ := Form.exists_spells_of_read hj
      obtain ⟨row, hrow, hop, rfl⟩ := exists_row_of_formIn hf
      obtain ⟨hbytes, rfl⟩ := encodeWith_of_row row hrow (renumber c.opmap) c.operandByte i bytes ops hspells
      have hcode : renumber c.opmap row.1 = op := by rw [hop, Configuration.opcode, renumber_original]
      exact ⟨row.2.2, bytes, rest, hf, hspells, i.wellFormed_iff.2 hops, hcode ▸ hbytes, hargs⟩
    next => cases h

/-- Settles O1: every instruction stands in a row of the opcode map, whose format reads back what it spells. -/
theorem decodeInvertsEncode : Obligations.DecodeInvertsEncode := by
  intro c i rest hi
  obtain ⟨b, f, bytes, hspells, hbytes, hf⟩ := i.exists_form c.operandByte
  have hencode : encodeIn c i = renumber c.opmap b :: bytes := hbytes _
  rw [hencode]
  exact decodeIn_of_form c b (bytes ++ rest) f i hf (hspells.read_append (i.wellFormed_iff.1 hi) rest)

/-- Settles O2, by the inversion of the decoder. -/
theorem encodeInvertsDecode : Obligations.EncodeInvertsDecode := by
  intro c bs i h
  cases bs with
  | nil => cases h
  | cons op args =>
    obtain ⟨f, bytes, rest, -, -, hi, hencode, rfl⟩ := exists_form_of_decodeIn h
    exact ⟨hi, rest, by rw [hencode, List.cons_append]⟩

/-- Settles O3: the opcode byte has one format, and a format has from 0 to 6 argument bytes. -/
theorem lengthFromOpcodeByte : Obligations.LengthFromOpcodeByte := by
  intro c op xs ys i j hi hj
  obtain ⟨f, bytes, -, hf, hspells, -, hencode, -⟩ := exists_form_of_decodeIn hi
  obtain ⟨g, bytes', -, hg, hspells', -, hencode', -⟩ := exists_form_of_decodeIn hj
  obtain rfl : f = g := Option.some.inj (hf.symm.trans hg)
  have := f.argCount_le
  rw [hencode, hencode', List.length_cons, List.length_cons, hspells.length_eq, hspells'.length_eq]
  omega

/-! ### Which opcode bytes are known -/

/-- The opcode bytes of the opcode map, as numbers (R86). -/
def assignedOpcodes : List Nat := opcodeTable.map fun row => row.1.toNat

theorem formIn_isSome_iff (op : Byte) : ∀ rows : List OpcodeRow,
    (formIn op rows).isSome = true ↔ op.toNat ∈ rows.map fun row => row.1.toNat
  | [] => by simp [formIn]
  | (o, name, f) :: rows => by
    rw [formIn, List.map_cons, List.mem_cons, ← formIn_isSome_iff op rows, ← BitVec.toNat_eq]
    split <;> simp [*]

theorem knownOpcode_iff (c : Configuration) (op : Byte) :
    knownOpcode c op = true ↔ (c.opcode op).toNat ∈ assignedOpcodes := formIn_isSome_iff _ _

/-- The list of R88 is what the opcode map of R86 leaves over. -/
theorem mem_assignedOpcodes_iff : ∀ b : Byte, b.toNat ∈ assignedOpcodes ↔ b.toNat ∉ Safety.unassignedOpcodes := by
  simp only [Safety.unassignedOpcodes, List.flatten_cons, List.flatten_nil, List.append_nil, List.mem_append,
    List.mem_range'_1]
  decide

theorem nodup_assignedOpcodes : assignedOpcodes.Nodup := by decide

theorem knownOpcode_eq_false_iff (c : Configuration) (op : Byte) :
    knownOpcode c op = false ↔ (original c.opmap op).toNat ∈ Safety.unassignedOpcodes := by
  rw [← Bool.not_eq_true, knownOpcode_iff, Configuration.opcode, mem_assignedOpcodes_iff, not_not]

theorem knownOpcode_reference_iff {n : Nat} (hn : n < 256) :
    knownOpcode Configuration.reference (BitVec.ofNat 8 n) = true ↔ n ∈ assignedOpcodes := by
  have hcode : (Configuration.reference.opcode (BitVec.ofNat 8 n)).toNat = n := Nat.mod_eq_of_lt hn
  rw [knownOpcode_iff, hcode]

theorem assignedOpcodes_lt : ∀ n ∈ assignedOpcodes, n < 256 := by
  intro n hn
  obtain ⟨row, -, rfl⟩ := List.mem_map.1 hn
  exact row.1.isLt

/-- The known opcode bytes of the reference numbering are the opcode map's, each once. -/
theorem filter_knownOpcode_perm :
    ((List.range 256).filter fun n => knownOpcode Configuration.reference (BitVec.ofNat 8 n)).Perm assignedOpcodes := by
  refine (List.perm_ext_iff_of_nodup (List.nodup_range.filter _) nodup_assignedOpcodes).2 fun n => ?_
  rw [List.mem_filter, List.mem_range]
  exact ⟨fun ⟨hn, hk⟩ => (knownOpcode_reference_iff hn).1 hk,
    fun h => ⟨assignedOpcodes_lt n h, (knownOpcode_reference_iff (assignedOpcodes_lt n h)).2 h⟩⟩

end Sys2Proof

namespace Sys2Proof.Machine

open Sys2Proof.Safety

/-! ### An unknown opcode in the CPU -/

theorem costOf_of_unknown (cost : Byte → Nat) (s : State) {op : Byte} (h : knownOpcode s.config op = false) :
    costOf cost s op = 1 := if_neg (by simp [h])

theorem complete_of_unknown (s : State) {op : Byte} (h : knownOpcode s.config op = false) :
    complete op s = .next s.nextOpcode := by
  rw [complete, decodeIn_of_unknown _ _ _ h]

/-- An unknown opcode is fetched and left behind in one cycle (R88, R110, R112). -/
theorem cpuCycle_of_unknown (cost : Byte → Nat) (s : State) (hc : s.crem = 0)
    (hk : knownOpcode s.config s.opcodeByte = false) :
    cpuCycle cost s = .next { s with cop := s.opcodeByte, crem := 0 }.nextOpcode := by
  have hleft : cyclesLeft cost s = 0 := by rw [cyclesLeft, if_pos hc, costOf_of_unknown cost s hk]
  have hop : s.currentOpcode = s.opcodeByte := if_pos hc
  rw [cpuCycle, if_pos hleft, hop]
  exact complete_of_unknown _ hk

/-- Settles O6: the known bytes by the opcode map, the cycle by `cpuCycle_of_unknown`. -/
theorem unknownOpcodeOnlyAdvances : Obligations.UnknownOpcodeOnlyAdvances := by
  refine ⟨knownOpcode_eq_false_iff _, knownOpcode_eq_false_iff, rfl, filter_knownOpcode_perm.length_eq, ?_⟩
  intro cost s hc hk
  exact ⟨costOf_of_unknown cost s hk, _, cpuCycle_of_unknown cost s hc hk, State.nextOpcode_toNat _, SameRegs.of_regs rfl,
    SameMemory.of_bus rfl, SameSpecials.refl s, rfl,
    ⟨rfl, hc.symm, rfl, rfl, rfl, rfl, rfl, rfl, rfl, rfl, rfl, rfl, rfl, rfl, rfl⟩⟩

/-! ### Invalid operands -/

theorem State.srcVal_eq_none (s : State) {o : Operand} {w : Width} (h : sourceOK o w = false) : s.srcVal o w = none := by
  rw [← Option.not_isSome_iff_eq_none, s.srcVal_isSome, h]
  exact Bool.false_ne_true

theorem gbase_eq_none {o : Operand} {w : Width} (h : target o w = false) : gbase o w = none := by
  rw [← Option.not_isSome_iff_eq_none, Bool.not_eq_true]
  exact h

/-- A result is written only to a target, and only when there is one (R94, R119). -/
theorem State.putResult_inert (s : State) {d : Operand} {w : Width} {v : Option (BitVec w.bits)}
    (h : target d w = false ∨ v = none) : s.putResult d w v = s := by
  rcases h with h | rfl
  · exact s.putResult_of_invalid d w v (gbase_eq_none h)
  · exact s.putResult_of_none d w

theorem both_none_left {n m : Nat} (f : BitVec n → BitVec n → BitVec m) (b : Option (BitVec n)) : both f none b = none := rfl

theorem both_none_right {n m : Nat} (f : BitVec n → BitVec n → BitVec m) (a : Option (BitVec n)) :
    both f a none = none := by
  cases a <;> rfl

theorem bitwiseReg_inert (f : Byte → Byte → Byte) {ra rb : Operand} (s : State)
    (h : (target ra .w8 && sourceOK rb .w8) = false) : bitwiseReg f ra rb s = s.readArgs 2 := by
  rw [bitwiseReg_eq]
  refine State.putResult_inert _ ((Bool.and_eq_false_iff.1 h).imp_right fun hb => ?_)
  rw [s.srcVal_eq_none hb, both_none_right]

theorem bitwiseOne_inert (k : Nat) (f : Byte → Byte) {ra : Operand} (s : State) (h : target ra .w8 = false) :
    bitwiseOne k f ra s = s.readArgs k := by
  rw [bitwiseOne_eq]
  exact State.putResult_inert _ (.inl h)

theorem arithReg_inert (w : Width) (f : BitVec w.bits → BitVec w.bits → BitVec w.bits) {rd ra rb : Operand} (s : State)
    (h : (target rd w && sourceOK ra w && sourceOK rb w) = false) : arithReg w f rd ra rb s = s.readArgs 3 := by
  rw [arithReg, bothValid_eq]
  rw [Bool.and_eq_false_iff, Bool.and_eq_false_iff] at h
  refine State.putResult_inert _ ?_
  rcases h with (hd | ha) | hb
  · exact .inl hd
  · exact .inr (by rw [State.srcVal_eq_none _ ha, both_none_left])
  · exact .inr (by rw [State.srcVal_eq_none _ hb, both_none_right])

theorem arithImm_inert (w : Width) (f : BitVec w.bits → BitVec w.bits → BitVec w.bits) {rd ra : Operand}
    (imm : BitVec w.bits) (s : State) (h : (target rd w && sourceOK ra w) = false) :
    arithImm w f rd ra imm s = s.readArgs (2 + w.bytes) := by
  refine State.putResult_inert _ ((Bool.and_eq_false_iff.1 h).imp_right fun ha => ?_)
  rw [State.srcVal_eq_none _ ha, Option.map_none]

theorem loadImmediate_inert (w : Width) {ra : Operand} (imm : BitVec w.bits) (p : Addr) (s : State)
    (h : targetOrMem ra w = false) : loadImmediate w ra imm p s = s.readArgs (1 + w.bytes) := by
  obtain ⟨hmem, htarget⟩ := Bool.or_eq_false_iff.1 h
  unfold loadImmediate
  split
  next => exact absurd rfl (of_decide_eq_false hmem)
  next => exact State.putResult_inert _ (.inl htarget)

theorem loadThrough_inert (w : Width) {ra : Operand} (s : State) (h : target ra w = false) :
    loadThrough w ra s = s.readArgs 1 := State.putResult_inert _ (.inl h)

theorem storeThrough_inert (w : Width) {ra : Operand} (s : State) (h : sourceOK ra w = false) :
    storeThrough w ra s = s.readArgs 1 := by
  rw [storeThrough, State.srcVal_eq_none _ h]

theorem moveGeneral_inert (w : Width) {ra rb : Operand} (s : State) (h : (target ra w && sourceOK rb w) = false) :
    moveGeneral w ra rb s = s.readArgs 2 :=
  State.putResult_inert _ ((Bool.and_eq_false_iff.1 h).imp_right (State.srcVal_eq_none _))

/-- The four special registers are sources of `mov16` besides the 16-bit ones (R92). -/
theorem State.srcVal16S_of_ne_special (s : State) {o : Operand} (hpc : o ≠ .pc) (hmem : o ≠ .mem) (hret : o ≠ .ret)
    (hint : o ≠ .int) : s.srcVal16S o = s.srcVal o .w16 := by
  cases o with
  | pc => exact absurd rfl hpc
  | mem => exact absurd rfl hmem
  | ret => exact absurd rfl hret
  | int => exact absurd rfl hint
  | nil | gen n | unassigned b => rfl

theorem State.srcVal16S_eq_none (s : State) {o : Operand} (h : sourceOK16S o = false) : s.srcVal16S o = none := by
  simp only [sourceOK16S, Bool.or_eq_false_iff, decide_eq_false_iff_not] at h
  obtain ⟨⟨⟨⟨hpc, hmem⟩, hret⟩, hint⟩, hsource⟩ := h
  rw [s.srcVal16S_of_ne_special hpc hmem hret hint, s.srcVal_eq_none hsource]

theorem moveSpecial_inert {ra rb : Operand} (s : State) (h : (target ra .w16 && sourceOK16S rb) = false) :
    moveSpecial ra rb s = s.readArgs 2 :=
  State.putResult_inert _ ((Bool.and_eq_false_iff.1 h).imp_right (State.srcVal16S_eq_none _))

theorem branchTaken_inert (c : Cond) (w : Width) {ra rb : Operand} (s : State)
    (h : (sourceOK ra w && sourceOK rb w) = false) : branchTaken c w ra rb s = false := by
  unfold branchTaken
  split
  next a b ha hb =>
    rw [← s.srcVal_isSome, ← s.srcVal_isSome, ha, hb] at h
    cases h
  next => rfl

theorem branch_inert (c : Cond) (w : Width) {ra rb : Operand} (target : Addr) (s : State)
    (h : (sourceOK ra w && sourceOK rb w) = false) : branch c w ra rb target s = s.readArgs 4 := by
  rw [branch, branchTaken_inert c w _ h, if_neg Bool.false_ne_true]

/-- An instruction with an operand that R94 does not accept reads its arguments and does nothing else. -/
theorem exec_of_invalid (i : Instr) (s : State) (h : operandsOK i = false) :
    exec i s = .next (s.readArgs (i.length - 1)) := by
  cases i with
  | and ra rb | or ra rb | xor ra rb => exact congrArg _ (bitwiseReg_inert _ s h)
  | not ra => exact congrArg _ (bitwiseOne_inert 1 _ s h)
  | andi ra imm | ori ra imm | xori ra imm | shl ra imm | shr ra imm => exact congrArg _ (bitwiseOne_inert 2 _ s h)
  | li8 ra imm | li16 ra imm | li32 ra imm | lui8 ra imm | lui16 ra imm | lui32 ra imm =>
    exact congrArg _ (loadImmediate_inert _ imm _ s h)
  | lm8 ra | lm16 ra | lm32 ra => exact congrArg _ (loadThrough_inert _ s h)
  | sm8 ra | sm16 ra | sm32 ra => exact congrArg _ (storeThrough_inert _ s h)
  | mov8 ra rb | mov32 ra rb => exact congrArg _ (moveGeneral_inert _ s h)
  | mov16 ra rb => exact congrArg _ (moveSpecial_inert s h)
  | add8 rd ra rb | add16 rd ra rb | add32 rd ra rb | addu8 rd ra rb | addu16 rd ra rb | addu32 rd ra rb
  | sub8 rd ra rb | sub16 rd ra rb | sub32 rd ra rb | subu8 rd ra rb | subu16 rd ra rb | subu32 rd ra rb
  | mul8 rd ra rb | mul16 rd ra rb | mul32 rd ra rb | mulu8 rd ra rb | mulu16 rd ra rb | mulu32 rd ra rb
  | div8 rd ra rb | div16 rd ra rb | div32 rd ra rb | divu8 rd ra rb | divu16 rd ra rb | divu32 rd ra rb =>
    exact congrArg _ (arithReg_inert _ _ s h)
  | addi8 rd ra imm | addi16 rd ra imm | addi32 rd ra imm | addui8 rd ra imm | addui16 rd ra imm | addui32 rd ra imm
  | subi8 rd ra imm | subi16 rd ra imm | subi32 rd ra imm | subui8 rd ra imm | subui16 rd ra imm | subui32 rd ra imm
  | muli8 rd ra imm | muli16 rd ra imm | muli32 rd ra imm | mului8 rd ra imm | mului16 rd ra imm | mului32 rd ra imm
  | divi8 rd ra imm | divi16 rd ra imm | divi32 rd ra imm | divui8 rd ra imm | divui16 rd ra imm | divui32 rd ra imm =>
    exact congrArg _ (arithImm_inert _ _ imm s h)
  | beq8 ra rb target | beq16 ra rb target | beq32 ra rb target | blt8 ra rb target | blt16 ra rb target
  | blt32 ra rb target | ble8 ra rb target | ble16 ra rb target | ble32 ra rb target | bgt8 ra rb target
  | bgt16 ra rb target | bgt32 ra rb target | bge8 ra rb target | bge16 ra rb target | bge32 ra rb target
  | bne8 ra rb target | bne16 ra rb target | bne32 ra rb target => exact congrArg _ (branch_inert _ _ target s h)
  | nop | nopi | mvm | clm | jmp | call | ret | rint => cases h

theorem length_encode (i : Instr) : (encode i).length = i.length := by
  cases i <;> rfl

/-- Settles O33: reading the arguments moves `pc` over them. -/
theorem invalidOperandsAreInert : Obligations.InvalidOperandsAreInert := by
  intro i s h
  rw [exec_of_invalid i s h, length_encode, ← wrap_eq_trunc]
  rfl

/-! ### Operand bytes, sources and destinations -/

/-- Settles O5: the assigned bytes one by one, the others because they fail every test of `ofByte`. -/
theorem operandBytesNameRegisters : Obligations.OperandBytesNameRegisters := by
  refine ⟨rfl, rfl, rfl, rfl, rfl, by decide, fun b hlow hhigh => ?_⟩
  have hne : ∀ n : Byte, n.toNat ≤ 0x04 → b ≠ n := by rintro n hn rfl; omega
  rw [Operand.ofByte, if_neg (hne _ (by decide)), if_neg (hne _ (by decide)), if_neg (hne _ (by decide)),
    if_neg (hne _ (by decide)), if_neg (hne _ (by decide)), if_neg (by omega)]

/-- Settles O7, from the laws of `gbase` and `srcVal`. -/
theorem sourceAndDestinationOperands : Obligations.SourceAndDestinationOperands := by
  refine ⟨gbase_some, gbase_le, State.srcVal_nil, State.srcVal_of_gbase, fun s o w hnil hbase => ?_,
    fun s => ⟨rfl, rfl, rfl, rfl⟩, fun s _ => s.srcVal16S_of_ne_special, fun o w => Option.isSome_iff_exists⟩
  rw [s.srcVal_of_ne_nil o w hnil, hbase, Option.map_none]

end Sys2Proof.Machine
end

section
/-! PROOFS of O36 to O39 and O43 (40_execution_loop.md). A known opcode always decodes and every `Exec` block completes, so
every completion, every CPU cycle and every step answers a next state; fetching an opcode puts the CPU where an instruction
in flight has its whole cost left, and from there each cycle takes one off. -/

namespace Sys2Proof.Machine

open Sys2Proof.Safety

/-! ### Completion -/

/-- Six bytes are read after every opcode, enough for the longest instruction (R80, R113). -/
theorem State.length_argBytes (s : State) : s.argBytes.length = 6 := by
  rw [State.argBytes, List.length_map, List.length_range]
  rfl

theorem decodeIn_argBytes_of_known {s : State} {op : Byte} (h : knownOpcode s.config op = true) :
    ∃ i, decodeIn s.config (op :: s.argBytes) = .ok i :=
  decodeIn_of_known _ op _ h s.length_argBytes.ge

theorem completed_of_exec {i : Instr} {s t : State} (h : exec i s = .next t) :
    completed i s = .next t.nextOpcode.takeInterrupt := by rw [completed, h, finishKnown]

theorem complete_of_decode {op : Byte} {s : State} {i : Instr} (h : decodeIn s.config (op :: s.argBytes) = .ok i) :
    complete op s = completed i s := by rw [complete, h, completed]

/-- Completing never fails: a known opcode decodes to an instruction whose `Exec` block completes, and an unknown one
is stepped over (R111, R112). -/
theorem exists_complete_eq_next (op : Byte) (s : State) : ∃ t, complete op s = .next t := by
  cases hk : knownOpcode s.config op with
  | true =>
    obtain ⟨i, hi⟩ := decodeIn_argBytes_of_known hk
    obtain ⟨t, ht, -⟩ := exec_effect i s
    exact ⟨_, (complete_of_decode hi).trans (completed_of_exec ht)⟩
  | false => exact ⟨_, complete_of_unknown s hk⟩

/-- Settles O36: by whether a request is latched (R325). -/
theorem interruptEntryAfterKnownInstruction : Obligations.InterruptEntryAfterKnownInstruction := by
  intro i s t h
  have hconfig : t.config = s.config := (ExecEffect.of_exec h).config_eq
  refine ⟨_, completed_of_exec h, ?_, fun hempty => ?_, fun hlatched => ?_, rfl, SameRegs.of_regs rfl,
    SameMemory.of_bus rfl, rfl, rfl, SameHidden.refl { t with ilatch := 0 }⟩
  · rw [State.nextOpcode_toNat, hconfig]
  · rw [State.takeInterrupt_pc, State.takeInterrupt_int, State.nextOpcode_ilatch, if_pos hempty, if_pos hempty]
    exact ⟨rfl, rfl⟩
  · rw [State.takeInterrupt_pc, State.takeInterrupt_int, State.nextOpcode_ilatch, if_neg hlatched, if_neg hlatched,
      wrap_toNat, State.nextOpcode_config, hconfig]
    exact ⟨rfl, rfl⟩

/-! ### Costs -/

theorem knownOpcode_of_nopi {c : Configuration} {op : Byte} (h : c.opcode op = 0x01) : knownOpcode c op = true := by
  rw [knownOpcode, h]; rfl

theorem costOf_of_nop (cost : Byte → Nat) {s : State} {op : Byte} (h : s.config.opcode op = 0x00) :
    costOf cost s op = 1 := by
  rw [costOf, if_pos h, ite_self]

theorem costOf_of_nopi (cost : Byte → Nat) {s : State} {op : Byte} (h : s.config.opcode op = 0x01) :
    costOf cost s op = max 1 (s.byteAt ((s.pc.toNat + 1) % s.config.cap)).toNat := by
  rw [costOf, if_pos (knownOpcode_of_nopi h), h, if_neg (by decide), if_pos rfl]

theorem costOf_of_table (cost : Byte → Nat) {s : State} {op : Byte} (hk : knownOpcode s.config op = true)
    (hnop : s.config.opcode op ≠ 0x00) (hnopi : s.config.opcode op ≠ 0x01) :
    costOf cost s op = cost (s.config.opcode op) := by
  rw [costOf, if_pos hk, if_neg hnop, if_neg hnopi]

/-- Every instruction spends a cycle at least (R114, D19, D20). -/
theorem one_le_costOf {cost : Byte → Nat} (hcost : ∀ x, 1 ≤ cost x) (s : State) (op : Byte) : 1 ≤ costOf cost s op := by
  unfold costOf
  split_ifs
  · exact le_rfl
  · exact le_max_left _ _
  · exact hcost _
  · exact le_rfl

/-- Settles O37, from the branches of `costOf`. -/
theorem costOfInstructions : Obligations.CostOfInstructions := fun cost s op hcost =>
  ⟨costOf_of_unknown cost s, costOf_of_nop cost, costOf_of_nopi cost, costOf_of_table cost, one_le_costOf hcost s op,
    fun _ => Nat.le_add_left 1 _⟩

/-! ### Cycles of the CPU -/

theorem cpuCycle_of_last {cost : Byte → Nat} {s : State} (h : cyclesLeft cost s = 0) :
    cpuCycle cost s = complete s.currentOpcode { s with cop := s.currentOpcode, crem := 0 } := if_pos h

theorem cpuCycle_of_waiting {cost : Byte → Nat} {s : State} (h : cyclesLeft cost s ≠ 0) :
    cpuCycle cost s = .next { s with cop := s.currentOpcode, crem := cyclesLeft cost s } := if_neg h

/-- A cycle of the CPU never fails: it completes an instruction or waits. -/
theorem exists_cpuCycle_eq_next (cost : Byte → Nat) (s : State) : ∃ t, cpuCycle cost s = .next t := by
  by_cases h : cyclesLeft cost s = 0
  · rw [cpuCycle_of_last h]; exact exists_complete_eq_next _ _
  · exact ⟨_, cpuCycle_of_waiting h⟩

/-- `s` with the instruction of opcode `op` in flight and `r` cycles of its cost left (R31). -/
def State.inFlight (s : State) (op : Byte) (r : Nat) : State := { s with cop := op, crem := r }

/-- The first cycle fetches the opcode and then is a cycle of an instruction with its whole cost left (R110). -/
theorem cpuCycle_of_fetch {cost : Byte → Nat} {s : State} (hcost : ∀ x, 1 ≤ cost x) (hc : s.crem = 0) :
    cpuCycle cost s = cpuCycle cost (s.inFlight s.opcodeByte (costOf cost s s.opcodeByte)) := by
  have hpos : costOf cost s s.opcodeByte ≠ 0 := Nat.one_le_iff_ne_zero.1 (one_le_costOf hcost s _)
  have hleft : cyclesLeft cost (s.inFlight s.opcodeByte (costOf cost s s.opcodeByte)) = cyclesLeft cost s := by
    rw [cyclesLeft, cyclesLeft, if_pos hc]
    exact congrArg (· - 1) (if_neg hpos)
  have hop : (s.inFlight s.opcodeByte (costOf cost s s.opcodeByte)).currentOpcode = s.currentOpcode :=
    (if_neg hpos).trans (if_pos hc).symm
  rw [cpuCycle, cpuCycle, hleft, hop]
  rfl

theorem cpuCycle_inFlight_last (cost : Byte → Nat) (s : State) (op : Byte) :
    cpuCycle cost (s.inFlight op 1) = complete op (s.inFlight op 0) := rfl

theorem cpuCycle_inFlight_waiting (cost : Byte → Nat) (s : State) (op : Byte) (r : Nat) :
    cpuCycle cost (s.inFlight op (r + 2)) = .next (s.inFlight op (r + 1)) := rfl

theorem cpuCycles_succ_of_next {cost : Byte → Nat} {s t : State} (h : cpuCycle cost s = .next t) (n : Nat) :
    cpuCycles cost (n + 1) s = cpuCycles cost n t := by rw [cpuCycles, h]

theorem cpuCycles_one (cost : Byte → Nat) (s : State) : cpuCycles cost 1 s = cpuCycle cost s := by
  obtain ⟨t, ht⟩ := exists_cpuCycle_eq_next cost s
  rw [cpuCycles_succ_of_next ht, cpuCycles, ht]

theorem cpuCycles_succ_congr {cost : Byte → Nat} {s t : State} (h : cpuCycle cost s = cpuCycle cost t) (n : Nat) :
    cpuCycles cost (n + 1) s = cpuCycles cost (n + 1) t := by
  simp only [cpuCycles, h]

/-- As long as more cycles are left than are run, running them only takes them off. -/
theorem cpuCycles_inFlight_waiting (cost : Byte → Nat) (s : State) (op : Byte) (r : Nat) :
    ∀ k, cpuCycles cost k (s.inFlight op (r + 1 + k)) = .next (s.inFlight op (r + 1))
  | 0 => rfl
  | k + 1 => by
    have hwait : cpuCycle cost (s.inFlight op (r + 1 + (k + 1))) = .next (s.inFlight op (r + 1 + k)) := by
      rw [show r + 1 + (k + 1) = r + k + 2 by omega, show r + 1 + k = r + k + 1 by omega]
      exact cpuCycle_inFlight_waiting cost s op (r + k)
    rw [cpuCycles_succ_of_next hwait, cpuCycles_inFlight_waiting cost s op r k]

/-- Running all the cycles left completes the instruction. -/
theorem cpuCycles_inFlight_all (cost : Byte → Nat) (s : State) (op : Byte) :
    ∀ r, cpuCycles cost (r + 1) (s.inFlight op (r + 1)) = complete op (s.inFlight op 0)
  | 0 => by rw [cpuCycles_one, cpuCycle_inFlight_last]
  | r + 1 => by
    rw [cpuCycles_succ_of_next (cpuCycle_inFlight_waiting cost s op r), cpuCycles_inFlight_all cost s op r]

/-- Settles O38: the fetch puts the whole cost in flight, and the cycles then run it down. -/
theorem costOnlyDelaysTheInstruction : Obligations.CostOnlyDelaysTheInstruction := by
  intro cost s hcost hc
  have hfetch := cpuCycles_succ_congr (cpuCycle_of_fetch hcost hc)
  constructor
  · intro k hk hlt
    obtain ⟨k, rfl⟩ := Nat.exists_eq_add_one.2 hk
    obtain ⟨r, hr⟩ := Nat.exists_eq_add_of_lt hlt
    have hleft : costOf cost s s.opcodeByte = r + 1 + (k + 1) := by omega
    rw [hfetch, hleft, cpuCycles_inFlight_waiting, Nat.add_sub_cancel, State.inFlight]
  · obtain ⟨r, hr⟩ := Nat.exists_eq_add_one.2 (one_le_costOf hcost s s.opcodeByte)
    have hview : s.inFlight s.opcodeByte 0 = { s with cop := s.opcodeByte } := by rw [State.inFlight, hc]
    rw [hr, hfetch, hr, cpuCycles_inFlight_all, hview, instructionStep]

/-! ### Steps -/

/-- A step is the CPU's cycle, between the host and the keyboard mapper and the rest of the cycle (R340). -/
theorem step_of_cpuCycle {s t : State} (h : cpuCycle Config.cost (keyboardCycle s.takeHostActions) = .next t) :
    step s = .next (finishCycle Config.video Config.pauseOnInterrupt t) := by rw [step, cycle, h]

theorem exists_step_eq_next (s : State) : ∃ t, step s = .next t := by
  obtain ⟨t, ht⟩ := exists_cpuCycle_eq_next Config.cost (keyboardCycle s.takeHostActions)
  exact ⟨_, step_of_cpuCycle ht⟩

theorem advance_succ_of_next {s t : State} (h : step s = .next t) (n : Nat) : advance (n + 1) s = advance n t := by
  rw [advance, h]

/-- Settles O43, by induction on the number of cycles. -/
theorem machineNeverStops : Obligations.MachineNeverStops := by
  intro n
  induction n with
  | zero => exact fun s => ⟨s, rfl⟩
  | succ n ih =>
    intro s
    obtain ⟨t, ht⟩ := exists_step_eq_next s
    rw [advance_succ_of_next ht]
    exact ih t

/-- Settles O39: by whether the cycle is the last of the instruction, and then by whether its opcode is known. -/
theorem stepRunsTheDecodedInstruction : Obligations.StepRunsTheDecodedInstruction := by
  refine ⟨fun v p u => rfl, fun s => ?_⟩
  intro k c
  refine ⟨fun hlast => ?_, fun hwait => step_of_cpuCycle (cpuCycle_of_waiting hwait)⟩
  have hcpu : cpuCycle Config.cost k = complete k.currentOpcode c := cpuCycle_of_last hlast
  refine ⟨fun i hi => ?_, fun hunknown => ?_, decodeIn_argBytes_of_known⟩
  · obtain ⟨t, ht, -⟩ := exec_effect i c
    have hdecode : decodeIn c.config (k.currentOpcode :: c.argBytes) = .ok i := hi
    exact ⟨t, ht, step_of_cpuCycle (hcpu.trans ((complete_of_decode hdecode).trans (completed_of_exec ht)))⟩
  · exact step_of_cpuCycle (hcpu.trans (complete_of_unknown c hunknown))

end Sys2Proof.Machine
end

section
/-! PROOFS of O13, O14 and O15 (41_bitwise.md), and of O4, which gathers words of every family. The nine bitwise
instructions are the two shared forms `bitwiseReg` and `bitwiseOne`, whose effect the laws of the operations give; what is
left is that complement and shifts compute the spec's arithmetic on integers. A word decodes because it is the encoding
of its instruction. -/

namespace Sys2Proof.Machine

open Sys2Proof.Safety

/-! ### The spec's arithmetic -/

theorem trunc_natCast (w n : Nat) : trunc w (n : Int) = BitVec.ofNat w n := BitVec.ofInt_natCast w n

/-- The complement never borrows (R134). -/
theorem complement_eq_trunc (x : Byte) : 255 - x = trunc 8 (255 - (x.toNat : Int)) := by
  have hle : x.toNat ≤ 255 := Nat.le_of_lt_succ x.isLt
  rw [show (255 - (x.toNat : Int)) = ((255 - x.toNat : Nat) : Int) by omega, trunc_natCast]
  bv_omega

theorem shiftLeft_eq_trunc (x count : Byte) :
    shiftLeft x count = if count.toNat < 8 then trunc 8 ((x.toNat : Int) * 2 ^ count.toNat) else 0 := by
  rw [shiftLeft, ← trunc_natCast]
  push_cast
  rfl

theorem shiftRight_eq_trunc (x count : Byte) :
    shiftRight x count = if count.toNat < 8 then trunc 8 ((x.toNat : Int) / 2 ^ count.toNat) else 0 := by
  rw [shiftRight, ← trunc_natCast]
  push_cast
  rfl

/-! ### Bitwise instructions -/

/-- The effect of a one-register form, its operation written in another way. -/
theorem wrote_bitwiseOne_of_eq {f g : Byte → Byte} (h : ∀ x, f x = g x) (k : Nat) (ra : Operand) (s : State) :
    Wrote s (bitwiseOne k f ra s) k ra .w8 (one g (s.srcVal ra .w8)) := by
  obtain rfl : f = g := funext h
  exact wrote_bitwiseOne k f ra s

/-- Settles O13: the three instructions are the register form of their operation. -/
theorem bitwiseRegisterResults : Obligations.BitwiseRegisterResults := fun s ra rb =>
  ⟨⟨rfl, _, rfl, wrote_bitwiseReg (· &&& ·) ra rb s⟩,
    ⟨rfl, _, rfl, wrote_bitwiseReg (· ||| ·) ra rb s⟩,
    ⟨rfl, _, rfl, wrote_bitwiseReg (· ^^^ ·) ra rb s⟩⟩

/-- Settles O14: the four instructions are the one-register form of their operation. -/
theorem bitwiseOneRegisterResults : Obligations.BitwiseOneRegisterResults := fun s ra imm =>
  ⟨⟨rfl, _, rfl, wrote_bitwiseOne_of_eq complement_eq_trunc 1 ra s⟩,
    ⟨rfl, _, rfl, wrote_bitwiseOne 2 (· &&& imm) ra s⟩,
    ⟨rfl, _, rfl, wrote_bitwiseOne 2 (· ||| imm) ra s⟩,
    ⟨rfl, _, rfl, wrote_bitwiseOne 2 (· ^^^ imm) ra s⟩⟩

/-- Settles O15: the two instructions are the one-register form of their shift. -/
theorem shiftResults : Obligations.ShiftResults := fun s ra imm =>
  ⟨⟨rfl, _, rfl, wrote_bitwiseOne_of_eq (shiftLeft_eq_trunc · imm) 2 ra s⟩,
    ⟨rfl, _, rfl, wrote_bitwiseOne_of_eq (shiftRight_eq_trunc · imm) 2 ra s⟩⟩

end Sys2Proof.Machine

namespace Sys2Proof

/-! ### Words -/

/-- The decoder inverts the encoder under the spec's own numbering, with nothing following. -/
theorem decode_encode (i : Instr) (h : i.wellFormed = true) : decode (encode i) = .ok i := by
  have hround := decodeInvertsEncode Configuration.reference i [] h
  rwa [List.append_nil] at hround

/-- Settles O4: each word is the encoding of the well-formed instruction beside it. -/
theorem specWordsDecode : Obligations.SpecWordsDecode :=
  ⟨decode_encode (.nopi 5) rfl, decode_encode (.not (.gen 2)) rfl, decode_encode (.shr (.gen 0) 3) rfl,
    decode_encode (.li32 .mem 0xABCD97C8) rfl, decode_encode (.lm16 (.gen 0)) rfl,
    decode_encode (.mov16 (.gen 4) .ret) rfl, decode_encode (.add8 (.gen 2) (.gen 0) (.gen 1)) rfl,
    decode_encode (.addui32 (.gen 4) .nil 0xDEADBEEF) rfl, decode_encode (.beq8 (.gen 0) (.gen 1) 0x0040) rfl,
    decode_encode (.mvm 0x98CE 0x0000 8) rfl, decode_encode (.clm 0x8001 3 0xFF) rfl,
    decode_encode (.call 0x0100) rfl, decode_encode .rint rfl⟩

end Sys2Proof
end

section
/-! PROOFS of O16 to O21 (42_arithmetic.md). The 48 instructions are the two shared forms `arithReg` and `arithImm`, whose
effect the laws of the operations give; what is left is arithmetic at any width: an unsigned operation is the spec's
operation on integers, a signed one agrees with it modulo 2 to the W, and a quotient is the library's `sdiv` or `udiv`. -/

namespace Sys2Proof.Machine

open Sys2Proof.Safety

/-! ### Sums, differences and products modulo 2 to the W -/

theorem addSigned_eq_add {n : Nat} (a b : BitVec n) : addSigned a b = a + b := by
  rw [addSigned, BitVec.ofInt_add, BitVec.ofInt_toInt, BitVec.ofInt_toInt]

theorem addUnsigned_eq_add {n : Nat} (a b : BitVec n) : addUnsigned a b = a + b := by
  rw [addUnsigned, BitVec.ofNat_add, BitVec.ofNat_toNat, BitVec.ofNat_toNat, BitVec.setWidth_eq, BitVec.setWidth_eq]

theorem ofInt_sub_eq_sub (n : Nat) (x y : Int) : BitVec.ofInt n (x - y) = BitVec.ofInt n x - BitVec.ofInt n y := by
  rw [Int.sub_eq_add_neg, BitVec.ofInt_add, BitVec.ofInt_neg, BitVec.sub_eq_add_neg]

theorem subSigned_eq_sub {n : Nat} (a b : BitVec n) : subSigned a b = a - b := by
  rw [subSigned, ofInt_sub_eq_sub, BitVec.ofInt_toInt, BitVec.ofInt_toInt]

theorem subUnsigned_eq_sub {n : Nat} (a b : BitVec n) : subUnsigned a b = a - b := by
  rw [subUnsigned, ofInt_sub_eq_sub, BitVec.ofInt_natCast, BitVec.ofInt_natCast, BitVec.ofNat_toNat, BitVec.ofNat_toNat,
    BitVec.setWidth_eq, BitVec.setWidth_eq]

theorem mulSigned_eq_mul {n : Nat} (a b : BitVec n) : mulSigned a b = a * b := by
  rw [mulSigned, BitVec.ofInt_mul, BitVec.ofInt_toInt, BitVec.ofInt_toInt]

theorem mulUnsigned_eq_mul {n : Nat} (a b : BitVec n) : mulUnsigned a b = a * b := by
  rw [mulUnsigned, BitVec.ofNat_mul, BitVec.ofNat_toNat, BitVec.ofNat_toNat, BitVec.setWidth_eq, BitVec.setWidth_eq]

theorem addSigned_eq_addUnsigned {n : Nat} (a b : BitVec n) : addSigned a b = addUnsigned a b :=
  (addSigned_eq_add a b).trans (addUnsigned_eq_add a b).symm

theorem subSigned_eq_subUnsigned {n : Nat} (a b : BitVec n) : subSigned a b = subUnsigned a b :=
  (subSigned_eq_sub a b).trans (subUnsigned_eq_sub a b).symm

theorem mulSigned_eq_mulUnsigned {n : Nat} (a b : BitVec n) : mulSigned a b = mulUnsigned a b :=
  (mulSigned_eq_mul a b).trans (mulUnsigned_eq_mul a b).symm

/-! ### The unsigned operations as the spec writes them -/

theorem addUnsigned_eq_trunc {n : Nat} (a b : BitVec n) : addUnsigned a b = trunc n ((a.toNat : Int) + b.toNat) := by
  rw [addUnsigned, ← trunc_natCast, Int.natCast_add]

theorem subUnsigned_eq_trunc {n : Nat} (a b : BitVec n) : subUnsigned a b = trunc n ((a.toNat : Int) - b.toNat) := rfl

theorem mulUnsigned_eq_trunc {n : Nat} (a b : BitVec n) : mulUnsigned a b = trunc n ((a.toNat : Int) * b.toNat) := by
  rw [mulUnsigned, ← trunc_natCast, Int.natCast_mul]

theorem divUnsigned_eq_trunc {n : Nat} (a b : BitVec n) :
    divUnsigned a b = if b = 0 then Config.div0 n false a else trunc n ((a.toNat : Int) / b.toNat) := by
  rw [divUnsigned, ← trunc_natCast, Int.natCast_ediv]

/-! ### The two forms, their operation written in another way -/

theorem wrote_arithReg_of_eq (w : Width) {f g : BitVec w.bits → BitVec w.bits → BitVec w.bits}
    (h : ∀ a b, f a b = g a b) (rd ra rb : Operand) (s : State) :
    Wrote s (arithReg w f rd ra rb s) 3 rd w (both g (s.srcVal ra w) (s.srcVal rb w)) := by
  obtain rfl : f = g := funext₂ h
  exact wrote_arithReg w f rd ra rb s

theorem wrote_arithImm_of_eq (w : Width) {f g : BitVec w.bits → BitVec w.bits → BitVec w.bits}
    (h : ∀ a b, f a b = g a b) (rd ra : Operand) (imm : BitVec w.bits) (s : State) :
    Wrote s (arithImm w f rd ra imm s) (2 + w.bytes) rd w (one (fun a => g a imm) (s.srcVal ra w)) := by
  obtain rfl : f = g := funext₂ h
  exact wrote_arithImm w f rd ra imm s

theorem next_arithReg_congr (w : Width) {f g : BitVec w.bits → BitVec w.bits → BitVec w.bits}
    (h : ∀ a b, f a b = g a b) (rd ra rb : Operand) (s : State) :
    (.next (arithReg w f rd ra rb s) : Host.Outcome State Fault Refusal) = .next (arithReg w g rd ra rb s) := by
  rw [show f = g from funext₂ h]

theorem next_arithImm_congr (w : Width) {f g : BitVec w.bits → BitVec w.bits → BitVec w.bits}
    (h : ∀ a b, f a b = g a b) (rd ra : Operand) (imm : BitVec w.bits) (s : State) :
    (.next (arithImm w f rd ra imm s) : Host.Outcome State Fault Refusal) = .next (arithImm w g rd ra imm s) := by
  rw [show f = g from funext₂ h]

/-! ### The 48 instructions -/

/-- Settles O16: the twelve instructions are the two shared forms; the signed operation is written as the statement writes
it, the unsigned one is `addUnsigned_eq_trunc`. -/
theorem addResults : Obligations.AddResults := fun s rd ra rb i8 i16 i32 =>
  ⟨⟨rfl, _, rfl, wrote_arithReg .w8 addSigned rd ra rb s⟩,
    ⟨rfl, _, rfl, wrote_arithReg .w16 addSigned rd ra rb s⟩,
    ⟨rfl, _, rfl, wrote_arithReg .w32 addSigned rd ra rb s⟩,
    ⟨rfl, _, rfl, wrote_arithImm .w8 addSigned rd ra i8 s⟩,
    ⟨rfl, _, rfl, wrote_arithImm .w16 addSigned rd ra i16 s⟩,
    ⟨rfl, _, rfl, wrote_arithImm .w32 addSigned rd ra i32 s⟩,
    ⟨rfl, _, rfl, wrote_arithReg_of_eq .w8 addUnsigned_eq_trunc rd ra rb s⟩,
    ⟨rfl, _, rfl, wrote_arithReg_of_eq .w16 addUnsigned_eq_trunc rd ra rb s⟩,
    ⟨rfl, _, rfl, wrote_arithReg_of_eq .w32 addUnsigned_eq_trunc rd ra rb s⟩,
    ⟨rfl, _, rfl, wrote_arithImm_of_eq .w8 addUnsigned_eq_trunc rd ra i8 s⟩,
    ⟨rfl, _, rfl, wrote_arithImm_of_eq .w16 addUnsigned_eq_trunc rd ra i16 s⟩,
    ⟨rfl, _, rfl, wrote_arithImm_of_eq .w32 addUnsigned_eq_trunc rd ra i32 s⟩⟩

/-- Settles O17: the twelve instructions are the two shared forms; the signed operation is written as the statement writes
it, the unsigned one is `subUnsigned_eq_trunc`. -/
theorem subtractResults : Obligations.SubtractResults := fun s rd ra rb i8 i16 i32 =>
  ⟨⟨rfl, _, rfl, wrote_arithReg .w8 subSigned rd ra rb s⟩,
    ⟨rfl, _, rfl, wrote_arithReg .w16 subSigned rd ra rb s⟩,
    ⟨rfl, _, rfl, wrote_arithReg .w32 subSigned rd ra rb s⟩,
    ⟨rfl, _, rfl, wrote_arithImm .w8 subSigned rd ra i8 s⟩,
    ⟨rfl, _, rfl, wrote_arithImm .w16 subSigned rd ra i16 s⟩,
    ⟨rfl, _, rfl, wrote_arithImm .w32 subSigned rd ra i32 s⟩,
    ⟨rfl, _, rfl, wrote_arithReg_of_eq .w8 subUnsigned_eq_trunc rd ra rb s⟩,
    ⟨rfl, _, rfl, wrote_arithReg_of_eq .w16 subUnsigned_eq_trunc rd ra rb s⟩,
    ⟨rfl, _, rfl, wrote_arithReg_of_eq .w32 subUnsigned_eq_trunc rd ra rb s⟩,
    ⟨rfl, _, rfl, wrote_arithImm_of_eq .w8 subUnsigned_eq_trunc rd ra i8 s⟩,
    ⟨rfl, _, rfl, wrote_arithImm_of_eq .w16 subUnsigned_eq_trunc rd ra i16 s⟩,
    ⟨rfl, _, rfl, wrote_arithImm_of_eq .w32 subUnsigned_eq_trunc rd ra i32 s⟩⟩

/-- Settles O18: the twelve instructions are the two shared forms; the signed operation is written as the statement writes
it, the unsigned one is `mulUnsigned_eq_trunc`. -/
theorem multiplyResults : Obligations.MultiplyResults := fun s rd ra rb i8 i16 i32 =>
  ⟨⟨rfl, _, rfl, wrote_arithReg .w8 mulSigned rd ra rb s⟩,
    ⟨rfl, _, rfl, wrote_arithReg .w16 mulSigned rd ra rb s⟩,
    ⟨rfl, _, rfl, wrote_arithReg .w32 mulSigned rd ra rb s⟩,
    ⟨rfl, _, rfl, wrote_arithImm .w8 mulSigned rd ra i8 s⟩,
    ⟨rfl, _, rfl, wrote_arithImm .w16 mulSigned rd ra i16 s⟩,
    ⟨rfl, _, rfl, wrote_arithImm .w32 mulSigned rd ra i32 s⟩,
    ⟨rfl, _, rfl, wrote_arithReg_of_eq .w8 mulUnsigned_eq_trunc rd ra rb s⟩,
    ⟨rfl, _, rfl, wrote_arithReg_of_eq .w16 mulUnsigned_eq_trunc rd ra rb s⟩,
    ⟨rfl, _, rfl, wrote_arithReg_of_eq .w32 mulUnsigned_eq_trunc rd ra rb s⟩,
    ⟨rfl, _, rfl, wrote_arithImm_of_eq .w8 mulUnsigned_eq_trunc rd ra i8 s⟩,
    ⟨rfl, _, rfl, wrote_arithImm_of_eq .w16 mulUnsigned_eq_trunc rd ra i16 s⟩,
    ⟨rfl, _, rfl, wrote_arithImm_of_eq .w32 mulUnsigned_eq_trunc rd ra i32 s⟩⟩

/-- Settles O19: the twelve instructions are the two shared forms; the signed operation is written as the statement writes
it, the unsigned one is `divUnsigned_eq_trunc`. -/
theorem divideResults : Obligations.DivideResults := fun s rd ra rb i8 i16 i32 =>
  ⟨⟨rfl, _, rfl, wrote_arithReg .w8 divSigned rd ra rb s⟩,
    ⟨rfl, _, rfl, wrote_arithReg .w16 divSigned rd ra rb s⟩,
    ⟨rfl, _, rfl, wrote_arithReg .w32 divSigned rd ra rb s⟩,
    ⟨rfl, _, rfl, wrote_arithImm .w8 divSigned rd ra i8 s⟩,
    ⟨rfl, _, rfl, wrote_arithImm .w16 divSigned rd ra i16 s⟩,
    ⟨rfl, _, rfl, wrote_arithImm .w32 divSigned rd ra i32 s⟩,
    ⟨rfl, _, rfl, wrote_arithReg_of_eq .w8 divUnsigned_eq_trunc rd ra rb s⟩,
    ⟨rfl, _, rfl, wrote_arithReg_of_eq .w16 divUnsigned_eq_trunc rd ra rb s⟩,
    ⟨rfl, _, rfl, wrote_arithReg_of_eq .w32 divUnsigned_eq_trunc rd ra rb s⟩,
    ⟨rfl, _, rfl, wrote_arithImm_of_eq .w8 divUnsigned_eq_trunc rd ra i8 s⟩,
    ⟨rfl, _, rfl, wrote_arithImm_of_eq .w16 divUnsigned_eq_trunc rd ra i16 s⟩,
    ⟨rfl, _, rfl, wrote_arithImm_of_eq .w32 divUnsigned_eq_trunc rd ra i32 s⟩⟩

/-- Settles O20: both forms of each pair are one shared form, of two operations that agree on every operand. -/
theorem signedAndUnsignedFormsAgree : Obligations.SignedAndUnsignedFormsAgree := fun s rd ra rb i8 i16 i32 =>
  ⟨next_arithReg_congr .w8 addSigned_eq_addUnsigned rd ra rb s,
    next_arithImm_congr .w8 addSigned_eq_addUnsigned rd ra i8 s,
    next_arithReg_congr .w16 addSigned_eq_addUnsigned rd ra rb s,
    next_arithImm_congr .w16 addSigned_eq_addUnsigned rd ra i16 s,
    next_arithReg_congr .w32 addSigned_eq_addUnsigned rd ra rb s,
    next_arithImm_congr .w32 addSigned_eq_addUnsigned rd ra i32 s,
    next_arithReg_congr .w8 subSigned_eq_subUnsigned rd ra rb s,
    next_arithImm_congr .w8 subSigned_eq_subUnsigned rd ra i8 s,
    next_arithReg_congr .w16 subSigned_eq_subUnsigned rd ra rb s,
    next_arithImm_congr .w16 subSigned_eq_subUnsigned rd ra i16 s,
    next_arithReg_congr .w32 subSigned_eq_subUnsigned rd ra rb s,
    next_arithImm_congr .w32 subSigned_eq_subUnsigned rd ra i32 s,
    next_arithReg_congr .w8 mulSigned_eq_mulUnsigned rd ra rb s,
    next_arithImm_congr .w8 mulSigned_eq_mulUnsigned rd ra i8 s,
    next_arithReg_congr .w16 mulSigned_eq_mulUnsigned rd ra rb s,
    next_arithImm_congr .w16 mulSigned_eq_mulUnsigned rd ra i16 s,
    next_arithReg_congr .w32 mulSigned_eq_mulUnsigned rd ra rb s,
    next_arithImm_congr .w32 mulSigned_eq_mulUnsigned rd ra i32 s⟩

/-! ### Quotients -/

theorem divSigned_eq_sdiv {n : Nat} (a : BitVec n) {b : BitVec n} (hb : b ≠ 0) : divSigned a b = a.sdiv b := by
  rw [divSigned, if_neg hb]
  apply BitVec.eq_of_toInt_eq
  rw [BitVec.toInt_ofInt, BitVec.toInt_sdiv]

theorem divUnsigned_eq_udiv {n : Nat} (a : BitVec n) {b : BitVec n} (hb : b ≠ 0) : divUnsigned a b = a / b := by
  rw [divUnsigned, if_neg hb, BitVec.udiv_def]

theorem toInt_eq_neg_one_iff {n : Nat} (hn : 0 < n) (b : BitVec n) : b.toInt = -1 ↔ b = -1#n := by
  rw [← BitVec.toInt_inj, BitVec.neg_one_eq_allOnes, BitVec.toInt_allOnes, if_pos hn]

theorem toInt_eq_min_iff {n : Nat} (hn : 0 < n) (a : BitVec n) : a.toInt = -2 ^ (n - 1) ↔ a = BitVec.intMin n := by
  rw [← BitVec.toInt_inj, BitVec.toInt_intMin_of_pos hn]

/-- But for the one overflow, the signed quotient fits the width (R145). -/
theorem toInt_divSigned {n : Nat} (hn : 0 < n) {a b : BitVec n} (hb : b ≠ 0)
    (hfits : ¬(a.toInt = -2 ^ (n - 1) ∧ b.toInt = -1)) : (divSigned a b).toInt = Int.tdiv a.toInt b.toInt := by
  rw [toInt_eq_min_iff hn, toInt_eq_neg_one_iff hn] at hfits
  rw [divSigned_eq_sdiv a hb]
  exact BitVec.toInt_sdiv_of_ne_or_ne a b (not_and_or.1 hfits)

/-- The remainder of a truncating division is smaller in size than the divisor. -/
theorem abs_tmod_lt_abs (x : Int) {y : Int} (hy : y ≠ 0) : |Int.tmod x y| < |y| := by
  have hlt : x.natAbs % y.natAbs < y.natAbs := Nat.mod_lt _ (Int.natAbs_pos.2 hy)
  rw [Int.abs_eq_natAbs, Int.abs_eq_natAbs, Int.natAbs_tmod]
  exact_mod_cast hlt

/-- The remainder of a truncating division has the sign of the dividend, here the negative one. -/
theorem tmod_nonpos_of_nonpos {x : Int} (y : Int) (hx : x ≤ 0) : Int.tmod x y ≤ 0 := by
  have hneg : 0 ≤ Int.tmod (-x) y := Int.tmod_nonneg y (by omega)
  rw [Int.neg_tmod] at hneg
  omega

/-- Signed division truncates toward zero, at any width: the remainder is `Int.tmod` (R144). -/
theorem exists_remainder_divSigned {n : Nat} (hn : 0 < n) {a b : BitVec n} (hb : b ≠ 0)
    (hfits : ¬(a.toInt = -2 ^ (n - 1) ∧ b.toInt = -1)) :
    ∃ r : Int, a.toInt = (divSigned a b).toInt * b.toInt + r ∧ |r| < |b.toInt| ∧ (0 ≤ a.toInt → 0 ≤ r) ∧
      (a.toInt ≤ 0 → r ≤ 0) := by
  have hb' : b.toInt ≠ 0 := fun h => hb (BitVec.toInt_inj.1 (h.trans BitVec.toInt_zero.symm))
  rw [toInt_divSigned hn hb hfits]
  exact ⟨Int.tmod a.toInt b.toInt, (Int.tdiv_mul_add_tmod _ _).symm, abs_tmod_lt_abs _ hb', Int.tmod_nonneg _,
    tmod_nonpos_of_nonpos _⟩

/-- The one overflow gives the dividend back, at any width (R145). -/
theorem divSigned_min_neg_one {n : Nat} (hn : 0 < n) {a b : BitVec n} (ha : a.toInt = -2 ^ (n - 1))
    (hb : b.toInt = -1) : divSigned a b = a := by
  have hb0 : b ≠ 0 := by
    rintro rfl
    simp at hb
  rw [divSigned_eq_sdiv a hb0, (toInt_eq_min_iff hn a).1 ha, (toInt_eq_neg_one_iff hn b).1 hb,
    BitVec.intMin_sdiv_neg_one]

/-- Unsigned division rounds down, at any width: the remainder is that of the natural numbers (R144). -/
theorem exists_remainder_divUnsigned {n : Nat} {a b : BitVec n} (hb : b ≠ 0) :
    ∃ r : Nat, a.toNat = (divUnsigned a b).toNat * b.toNat + r ∧ r < b.toNat := by
  have hpos : 0 < b.toNat := Nat.pos_of_ne_zero fun h => hb (BitVec.eq_of_toNat_eq h)
  rw [divUnsigned_eq_udiv a hb, BitVec.toNat_udiv]
  exact ⟨a.toNat % b.toNat, (Nat.div_add_mod' _ _).symm, Nat.mod_lt _ hpos⟩

/-- Settles O21: each clause is the fact for any width, at 8, 16 and 32 bits. -/
theorem quotientsTruncateTowardZero : Obligations.QuotientsTruncateTowardZero :=
  ⟨fun _ _ => exists_remainder_divSigned (by decide),
    fun _ _ => divSigned_min_neg_one (by decide),
    fun _ _ => exists_remainder_divUnsigned,
    fun _ _ => exists_remainder_divSigned (by decide),
    fun _ _ => divSigned_min_neg_one (by decide),
    fun _ _ => exists_remainder_divUnsigned,
    fun _ _ => exists_remainder_divSigned (by decide),
    fun _ _ => divSigned_min_neg_one (by decide),
    fun _ _ => exists_remainder_divUnsigned⟩

end Sys2Proof.Machine
end

section
/-! PROOF of O22 (43_load_immediate.md). The six instructions are the shared form `loadImmediate`, whose effect the laws of the
operations give for either kind of target; what is left is that the 16-bit form of the immediate is the number the spec names,
cut to 16 bits. -/

namespace Sys2Proof.Machine

open Sys2Proof.Safety

/-! ### The immediate brought to another width (R200, D11) -/

theorem signExtend_eq_trunc {n : Nat} (m : Nat) (x : BitVec n) : x.signExtend m = trunc m x.toInt := rfl

/-- Extending with zeros and keeping the low bits are one operation, which keeps the unsigned number modulo 2 to the width. -/
theorem setWidth_eq_trunc {n : Nat} (m : Nat) (x : BitVec n) : x.setWidth m = trunc m x.toNat := by
  rw [trunc_natCast, BitVec.ofNat_toNat]

/-! ### The six instructions -/

/-- Everything a load-immediate can do, for both kinds of target: the pointer moves to `p`, however it is written (`q`), or
the target receives the immediate. -/
theorem loadImmediate_effect (w : Width) (ra : Operand) (imm : BitVec w.bits) {p q : Addr} (hp : p = q) (s : State) :
    (ra = .mem → MovedPointer s (loadImmediate w ra imm p s) (1 + w.bytes) q) ∧
      (ra ≠ .mem → Wrote s (loadImmediate w ra imm p s) (1 + w.bytes) ra w (some imm)) := by
  subst hp
  constructor
  · rintro rfl
    exact movedPointer_loadImmediate w imm p s
  · exact wrote_loadImmediate w ra imm p s

/-- Settles O22: each instruction is the shared form at its width, and its pointer form of the immediate is the one the
statement names. -/
theorem loadImmediateResults : Obligations.LoadImmediateResults := fun s ra i8 i16 i32 =>
  ⟨⟨rfl, _, rfl, loadImmediate_effect .w8 ra i8 (signExtend_eq_trunc 16 i8) s⟩,
    ⟨rfl, _, rfl, loadImmediate_effect .w16 ra i16 rfl s⟩,
    ⟨rfl, _, rfl, loadImmediate_effect .w32 ra i32 (setWidth_eq_trunc 16 i32) s⟩,
    ⟨rfl, _, rfl, loadImmediate_effect .w8 ra i8 (setWidth_eq_trunc 16 i8) s⟩,
    ⟨rfl, _, rfl, loadImmediate_effect .w16 ra i16 rfl s⟩,
    ⟨rfl, _, rfl, loadImmediate_effect .w32 ra i32 (setWidth_eq_trunc 16 i32) s⟩⟩

end Sys2Proof.Machine
end

section
/-! PROOFS of O23 and O24 (44_load_store.md). The six instructions are the two shared forms `loadThrough` and `storeThrough`
at the three widths. What each form can do, with every operand and at every address in `mem`, is said once for all widths by
the laws of the operations; an instruction adds its encoding and that `exec` is the form. -/

namespace Sys2Proof.Machine

open Sys2Proof.Safety

/-- Settles O23: each load is the shared form at its width, which writes the value read at `mem` as a result. -/
theorem loadResults : Obligations.LoadResults := fun s ra =>
  ⟨⟨rfl, _, rfl, wrote_loadThrough .w8 ra s⟩,
    ⟨rfl, _, rfl, wrote_loadThrough .w16 ra s⟩,
    ⟨rfl, _, rfl, wrote_loadThrough .w32 ra s⟩⟩

/-- Settles O24: each store is the shared form at its width, which stores a valid source through `mem` under the policy of
scalar writes (R56, R57) and nothing otherwise. -/
theorem storeResults : Obligations.StoreResults := fun s ra hs =>
  ⟨⟨rfl, _, rfl, stored_storeThrough .w8 ra s hs⟩,
    ⟨rfl, _, rfl, stored_storeThrough .w16 ra s hs⟩,
    ⟨rfl, _, rfl, stored_storeThrough .w32 ra s hs⟩⟩

end Sys2Proof.Machine
end

section
/-! PROOF of O25 (45_move.md). `mov8` and `mov32` are the shared form `moveGeneral` and `mov16` is `moveSpecial`, whose effect
the laws of the operations give; what is left is how a source of `mov16` reads once the two argument bytes have been fetched. -/

namespace Sys2Proof.Machine

open Sys2Proof.Safety

/-- Fetching `k` argument bytes moves `pc` and no other source of `mov16` (R118, R222). -/
theorem State.srcVal16S_readArgs (s : State) (k : Nat) (o : Operand) :
    (s.readArgs k).srcVal16S o =
      if o = .pc then some (trunc 16 (((s.pc.toNat + k) % s.config.cap : Nat) : Int)) else s.srcVal16S o := by
  cases o with
  | pc => rw [if_pos rfl, trunc_natCast]; rfl
  | mem | ret | int => rfl
  | nil | gen n | unassigned b =>
    rw [if_neg (by simp)]
    simp only [State.srcVal16S, State.srcVal_readArgs]

/-- Settles O25: `mov8` and `mov32` write the source as it stood; `mov16` differs only in what `pc` reads as, its own last
byte. -/
theorem moveResults : Obligations.MoveResults := fun s ra rb =>
  ⟨⟨rfl, _, rfl, wrote_moveGeneral .w8 ra rb s⟩,
    ⟨rfl, _, rfl, s.srcVal16S_readArgs 2 rb ▸ wrote_moveSpecial ra rb s⟩,
    ⟨rfl, _, rfl, wrote_moveGeneral .w32 ra rb s⟩⟩

end Sys2Proof.Machine
end

section
/-! PROOFS of O28, O29 and O30 (47_branch.md). The eighteen instructions are the one shared form `branch` at six conditions
and three widths. `went_branch` says what the form can do, taken or not, whatever the operands and the target; an instruction
adds its encoding, that `exec` is the form, and that the condition is the comparison of unsigned numbers that R241 gives it. -/

namespace Sys2Proof.Machine

open Sys2Proof.Safety

/-- Settles O28: `beq` and `bne` are the shared form, of equality and of its negation. -/
theorem equalityBranches : Obligations.EqualityBranches := fun s ra rb target =>
  ⟨⟨rfl, _, rfl, went_branch .eq .w8 ra rb target s _ fun _ _ => rfl⟩,
    ⟨rfl, _, rfl, went_branch .eq .w16 ra rb target s _ fun _ _ => rfl⟩,
    ⟨rfl, _, rfl, went_branch .eq .w32 ra rb target s _ fun _ _ => rfl⟩,
    ⟨rfl, _, rfl, went_branch .ne .w8 ra rb target s _ fun _ _ => rfl⟩,
    ⟨rfl, _, rfl, went_branch .ne .w16 ra rb target s _ fun _ _ => rfl⟩,
    ⟨rfl, _, rfl, went_branch .ne .w32 ra rb target s _ fun _ _ => rfl⟩⟩

/-- Settles O29: `blt` and `ble` are the shared form, of the strict order and of the weak one. -/
theorem belowBranches : Obligations.BelowBranches := fun s ra rb target =>
  ⟨⟨rfl, _, rfl, went_branch .lt .w8 ra rb target s _ fun _ _ => rfl⟩,
    ⟨rfl, _, rfl, went_branch .lt .w16 ra rb target s _ fun _ _ => rfl⟩,
    ⟨rfl, _, rfl, went_branch .lt .w32 ra rb target s _ fun _ _ => rfl⟩,
    ⟨rfl, _, rfl, went_branch .le .w8 ra rb target s _ fun _ _ => rfl⟩,
    ⟨rfl, _, rfl, went_branch .le .w16 ra rb target s _ fun _ _ => rfl⟩,
    ⟨rfl, _, rfl, went_branch .le .w32 ra rb target s _ fun _ _ => rfl⟩⟩

/-- Settles O30: `bgt` and `bge` are the shared form, of the two orders with the operands exchanged. -/
theorem aboveBranches : Obligations.AboveBranches := fun s ra rb target =>
  ⟨⟨rfl, _, rfl, went_branch .gt .w8 ra rb target s _ fun _ _ => rfl⟩,
    ⟨rfl, _, rfl, went_branch .gt .w16 ra rb target s _ fun _ _ => rfl⟩,
    ⟨rfl, _, rfl, went_branch .gt .w32 ra rb target s _ fun _ _ => rfl⟩,
    ⟨rfl, _, rfl, went_branch .ge .w8 ra rb target s _ fun _ _ => rfl⟩,
    ⟨rfl, _, rfl, went_branch .ge .w16 ra rb target s _ fun _ _ => rfl⟩,
    ⟨rfl, _, rfl, went_branch .ge .w32 ra rb target s _ fun _ _ => rfl⟩⟩

end Sys2Proof.Machine
end

section
/-! PROOFS of O31 and O32 (48_jump_call.md), O12 (49_noop.md) and O34 (60_exceptions.md). A jump moves `pc` so that the next
opcode is fetched at its target; call, ret and rint add to it one change of `ret` or `int`, of which `Went` does not speak. That a
return undoes a call is then read off what the two do. -/

namespace Sys2Proof.Machine

open Sys2Proof.Safety

/-! ### Jump, call and return -/

/-- Everything `jump` from the opcode byte can do (R115). -/
theorem went_jump_from (s : State) (t : Addr) : Went s (s.jump t) (t.toNat % s.config.cap) :=
  ⟨s.jump_nextOpcode t, SameRegs.of_regs (s.jump_regs t), SameMemory.of_bus (s.jump_bus t), s.jump_mem t, SameHidden.refl s⟩

/-- What `Went` says does not depend on `ret` and `int`. -/
theorem went_of_links {s t : State} {next : Nat} (ret int : Addr) (h : Went s t next) :
    Went s { t with ret := ret, int := int } next :=
  ⟨h.pc, h.regs, h.memory, h.mem, h.hidden⟩

theorem went_callTo (s : State) (k : Nat) (t : Addr) : Went s ((s.readArgs k).callTo t) (t.toNat % s.config.cap) :=
  went_of_links _ _ (went_jump s k t)

theorem went_returnFromCall (s : State) : Went s s.returnFromCall (s.ret.toNat % s.config.cap) :=
  went_of_links _ _ (went_jump_from s s.ret)

theorem went_returnFromInterrupt (s : State) : Went s s.returnFromInterrupt (s.int.toNat % s.config.cap) :=
  went_of_links _ _ (went_jump_from s s.int)

/-- A request in the latch is taken right after `rint`, which returns to it from the place it was to return to (R274). -/
theorem completed_rint_latched (s : State) : ∃ u, completed .rint s = .next u ∧
    (s.ilatch ≠ 0 → u.pc.toNat = s.ilatch.toNat % s.config.cap ∧ u.int.toNat = s.int.toNat % s.config.cap ∧ u.ilatch = 0) := by
  have hexec : exec .rint s = .next s.returnFromInterrupt := rfl
  obtain ⟨u, hu, -, -, hentry, hlatch, -⟩ := interruptEntryAfterKnownInstruction .rint s _ hexec
  refine ⟨u, hu, fun hl => ?_⟩
  obtain ⟨hint, hpc⟩ := hentry hl
  exact ⟨hpc, hint ▸ (went_returnFromInterrupt s).pc, hlatch⟩

/-- Settles O31: the four instructions are `jump` and at most one change of `ret` or `int`. -/
theorem jumpAndReturnResults : Obligations.JumpAndReturnResults := fun s target =>
  ⟨⟨rfl, _, rfl, SameSpecials.refl s, went_jump s 2 target⟩,
    ⟨rfl, _, rfl, s.readArgs_nextOpcode 2, rfl, went_callTo s 2 target⟩,
    ⟨rfl, _, rfl, rfl, rfl, went_returnFromCall s⟩,
    ⟨rfl, _, rfl, rfl, rfl, went_returnFromInterrupt s, completed_rint_latched s⟩⟩

/-- With nothing latched, what follows an `Exec` block is the step to the next opcode (R111). -/
theorem completed_of_empty_latch {i : Instr} {s t : State} (h : exec i s = .next t) (hl : t.ilatch = 0) :
    ∃ u, completed i s = .next u ∧ u.pc = t.nextOpcode.pc ∧ u.ret = t.ret := by
  obtain ⟨u, hu, -, hempty, -, -, -, -, -, hret, -⟩ := interruptEntryAfterKnownInstruction i s t h
  exact ⟨u, hu, (hempty hl).1, hret⟩

/-- Settles O32: the return fetches at `ret`, where the call left the address after its last byte. -/
theorem callThenReturnComesBack : Obligations.CallThenReturnComesBack := by
  intro s target hl
  obtain ⟨-, ⟨-, c, hc, hback, -, wentc⟩, -, -⟩ := jumpAndReturnResults s target
  obtain ⟨t, ht, htpc, htret⟩ := completed_of_empty_latch hc (wentc.hidden.1.trans hl)
  refine ⟨t, ht, htpc ▸ wentc.pc, fun u hconfig hret hul => ?_⟩
  obtain ⟨-, -, ⟨-, r, hr, hcleared, -, wentr⟩, -⟩ := jumpAndReturnResults u target
  obtain ⟨x, hx, hxpc, hxret⟩ := completed_of_empty_latch hr (wentr.hidden.1.trans hul)
  refine ⟨x, hx, ?_, hxret.trans hcleared⟩
  rw [hxpc, wentr.pc, hret, htret, hback, hconfig, Nat.mod_mod]

/-! ### No operation -/

/-- Settles O12: `nop` is the identity and `nopi` reads one argument byte. -/
theorem nopFormsOnlyAdvance : Obligations.NopFormsOnlyAdvance :=
  ⟨⟨rfl, fun cost _ _ h => costOf_of_nop cost h⟩, fun s => ⟨rfl, s.nextOpcode_toNat⟩, fun _ s =>
    ⟨rfl, s.readArgs 1, rfl, s.readArgs_toNat 1, s.readArgs_nextOpcode 1, fun m _ => s.reg_readArgs 1 m,
      fun a => s.byteAt_readArgs 1 a, SameSpecials.refl s, SameHidden.readArgs s 1⟩⟩

/-! ### No fault -/

/-- No effect an instruction can have reaches anything hidden. -/
theorem ExecEffect.sameHidden {i : Instr} {s t : State} (e : ExecEffect s i t) : SameHidden s t := by
  cases e <;> exact SameHidden.refl s

/-- Settles O34, from the effects an instruction can have. -/
theorem everyInstructionCompletes : Obligations.EveryInstructionCompletes := by
  intro i s
  obtain ⟨t, ht, e⟩ := exec_effect i s
  exact ⟨t, ht, e.sameHidden, e.config_eq ▸ wrap_lt t.config _⟩

end Sys2Proof.Machine
end

section
/-! PROOFS of O40, O41, O42, O46, O47, O48 and O49 (60_exceptions.md, sections 3, 5 and 6), and of O58 and O59
(70_reset_and_hazards.md). A key event writes two bytes of key-RAM; a cycle of the CPU leaves all outside it alone; the video
generator only adds to the queue. So a key's request is still at the front when the arbiter comes to it in its own cycle. -/

namespace Sys2Proof.Machine

open Sys2Proof.Safety

/-! ### The latch, the queue and the arbiter -/

/-- Settles O46, by whether the address is 0 and whether the latch is empty. -/
theorem latchAndRequestRules : Obligations.LatchAndRequestRules := fun s v =>
  ⟨s.request_ne v, s.request_zero, s.interrupt_empty v, s.interrupt_full v⟩

theorem arbitrate_of_no_request (p : Bool) {s : State} (h : s.iq = []) : arbitrate p s = s := by rw [arbitrate, h]

theorem arbitrate_of_latched (p : Bool) {s : State} (h : s.ilatch ≠ 0) : arbitrate p s = s := by
  rcases arbitrate_cases p s with ⟨e, -⟩ | ⟨_, _, _, hempty, -⟩
  · exact e
  · exact absurd hempty h

theorem arbitrate_of_served (p : Bool) {s : State} {front : Addr} {rest : List Addr} (hq : s.iq = front :: rest)
    (hl : s.ilatch = 0) : arbitrate p s = { s with ilatch := front, iq := rest, paused := p || s.paused } := by
  rw [arbitrate, hq]
  simp only [s.interrupt_empty front hl]

/-- Settles O47: the three cases of the arbiter. -/
theorem arbiterServesTheFront : Obligations.ArbiterServesTheFront := fun p _ _ _ =>
  ⟨arbitrate_of_no_request p, fun _ => arbitrate_of_latched p, arbitrate_of_served p⟩

/-! ### The host between cycles -/

/-- The actions due before a cycle, named (R341). -/
theorem State.takeHostActions_of_host {s : State} {actions : List HostAction} {rest : List (List HostAction)}
    (h : s.host = actions :: rest) : s.takeHostActions = actions.foldl State.hostAction { s with host := rest } := by
  rw [State.takeHostActions, h]; rfl

theorem State.takeHostActions_of_no_host {s : State} (h : s.host = []) : s.takeHostActions = s := by
  rw [s.takeHostActions_none (by rw [h]; rfl), h, List.tail_nil, ← h]

/-- Settles O40: by the entries of the host's coming actions; the five actions are the branches of `hostAction`. -/
theorem hostActionsComeBeforeTheCycle : Obligations.HostActionsComeBeforeTheCycle := fun _ _ _ =>
  ⟨rfl, State.takeHostActions_of_no_host, State.takeHostActions_of_host, State.takeHostActions_of_host,
    fun _ _ => rfl, fun _ _ => rfl, rfl, rfl, rfl⟩

/-! ### One cycle -/

/-- What a cycle of the CPU leaves alone, and that it neither fills an empty latch nor then enters an interrupt. -/
structure CpuFrame (s t : State) : Prop where
  config : t.config = s.config
  iq : t.iq = s.iq
  kdirty : t.kdirty = s.kdirty
  tick : t.tick = s.tick
  paused : t.paused = s.paused
  host : t.host = s.host
  ilatch : s.ilatch = 0 → t.ilatch = 0
  int : s.ilatch = 0 → t.int = s.int ∨ t.int = 0

/-- A completed instruction stays inside the CPU, and `rint` is the only one to touch `int` (R27, R111). -/
theorem ExecEffect.cpuFrame {i : Instr} {s t : State} (e : ExecEffect s i t) : CpuFrame s t.nextOpcode.takeInterrupt := by
  obtain ⟨hlatch, -, -, hiq, hdirty, -, -, -, -, -, -, htick, hpaused, hhost, hconfig⟩ := e.sameHidden
  have hint : t.int = s.int ∨ t.int = 0 := by
    cases e with
    | returnedFromInterrupt pc => exact .inr rfl
    | _ => exact .inl rfl
  refine ⟨hconfig, hiq, hdirty, htick, hpaused, hhost, fun _ => rfl, fun h => ?_⟩
  rw [State.takeInterrupt_int, State.nextOpcode_ilatch, if_pos (hlatch.trans h), State.nextOpcode_int]
  exact hint

theorem CpuFrame.of_complete {op : Byte} {s t : State} (h : complete op s = .next t) : CpuFrame s t := by
  cases hk : knownOpcode s.config op with
  | true =>
    obtain ⟨i, hi⟩ := decodeIn_argBytes_of_known hk
    obtain ⟨u, hu, e⟩ := exec_effect i s
    rw [complete_of_decode hi, completed_of_exec hu] at h
    obtain rfl := Host.Outcome.next.inj h
    exact e.cpuFrame
  | false =>
    rw [complete_of_unknown s hk] at h
    obtain rfl := Host.Outcome.next.inj h
    exact ⟨rfl, rfl, rfl, rfl, rfl, rfl, id, fun _ => .inl rfl⟩

/-- A cycle of the CPU completes an instruction or waits; both stay inside the CPU (R110). -/
theorem CpuFrame.of_cpuCycle {cost : Byte → Nat} {s t : State} (h : cpuCycle cost s = .next t) : CpuFrame s t := by
  by_cases hlast : cyclesLeft cost s = 0
  · rw [cpuCycle_of_last hlast] at h
    exact { CpuFrame.of_complete h with }
  · rw [cpuCycle_of_waiting hlast] at h
    obtain rfl := Host.Outcome.next.inj h
    exact ⟨rfl, rfl, rfl, rfl, rfl, rfl, id, fun _ => .inl rfl⟩

/-- Every step is the host's actions, the keyboard mapper, a cycle of the CPU and the rest of the cycle (R340). -/
theorem step_phases (s : State) : ∃ u, CpuFrame (keyboardCycle s.takeHostActions) u ∧
    step s = .next (finishCycle Config.video Config.pauseOnInterrupt u) := by
  obtain ⟨u, hu⟩ := exists_cpuCycle_eq_next Config.cost (keyboardCycle s.takeHostActions)
  exact ⟨u, .of_cpuCycle hu, step_of_cpuCycle hu⟩

@[simp] theorem finishCycle_config (v : VideoParams) (p : Bool) (s : State) : (finishCycle v p s).config = s.config := by
  simp [finishCycle]
@[simp] theorem finishCycle_kdirty (v : VideoParams) (p : Bool) (s : State) : (finishCycle v p s).kdirty = s.kdirty := by
  simp [finishCycle]
@[simp] theorem finishCycle_host (v : VideoParams) (p : Bool) (s : State) : (finishCycle v p s).host = s.host := by
  simp [finishCycle]
@[simp] theorem finishCycle_int (v : VideoParams) (p : Bool) (s : State) : (finishCycle v p s).int = s.int := by
  simp [finishCycle]

/-- Settles O41, phase by phase. -/
theorem everyStepSpendsOneCycle : Obligations.EveryStepSpendsOneCycle := by
  intro s
  obtain ⟨u, frame, hstep⟩ := step_phases s
  refine ⟨_, hstep, ?_, ?_, ?_, ?_⟩
  · rw [finishCycle_tick, frame.tick, keyboardCycle_tick]
  · rw [finishCycle_kdirty, frame.kdirty, keyboardCycle_kdirty]
  · rw [finishCycle_host, frame.host, keyboardCycle_host, s.takeHostActions_host]
  · rw [finishCycle_config, frame.config, keyboardCycle_config, s.takeHostActions_config]

/-- Settles O42, by induction on the first number of cycles. -/
theorem advanceAddsUp : Obligations.AdvanceAddsUp := by
  intro a b
  induction a with
  | zero =>
    intro s t h
    obtain rfl := Host.Outcome.next.inj h
    rw [Nat.zero_add]
  | succ a ih =>
    intro s t h
    obtain ⟨u, hu⟩ := exists_step_eq_next s
    rw [advance_succ_of_next hu] at h
    rw [Nat.succ_add, advance_succ_of_next hu, ih u t h]

/-! ### Key events -/

/-- Everything a key event can do to a byte (R350). -/
theorem State.byteAt_setKey {s : State} (hs : canonical s) (code : Byte) (isDown : Bool) (a : Nat) :
    (s.setKey code isDown).byteAt a =
      if a = s.config.keyramBase + 2 then code
      else if a = s.config.keyramBase + 8 + code.toNat then (if isDown then 255 else 0) else s.byteAt a := by
  have hcap := s.config.keyram_bounds.1
  have hcode := code.isLt
  have hstores : (s.setKey code isDown).byteAt a =
      ((s.storeBytes (s.config.keyramBase + 8 + code.toNat) [if isDown then 255 else 0]).storeBytes
        (s.config.keyramBase + 2) [code]).byteAt a := rfl
  rw [hstores, State.byteAt_storeBytes _ _ _ (s.canonical_storeBytes _ _ hs), State.storeBytes_config,
    s.byteAt_storeBytes _ _ hs, List.length_singleton, List.length_singleton]
  by_cases hl : a = s.config.keyramBase + 2
  · rw [if_pos hl, if_pos (by omega), hl, Nat.sub_self]
    rfl
  by_cases hk : a = s.config.keyramBase + 8 + code.toNat
  · rw [if_neg hl, if_pos hk, if_neg (by omega), if_pos (by omega), hk, Nat.sub_self]
    rfl
  · rw [if_neg hl, if_neg hk, if_neg (by omega), if_neg (by omega)]

/-- The events of one gap between two cycles (R341). -/
def State.setKeys (s : State) (events : List (Byte × Bool)) : State := events.foldl (fun x e => x.setKey e.1 e.2) s

theorem State.setKeys_append (s : State) (xs ys : List (Byte × Bool)) : s.setKeys (xs ++ ys) = (s.setKeys xs).setKeys ys :=
  List.foldl_append

theorem State.setKeys_config : ∀ (events : List (Byte × Bool)) (s : State), (s.setKeys events).config = s.config
  | [], _ => rfl
  | e :: events, s => State.setKeys_config events (s.setKey e.1 e.2)

theorem State.setKeys_iq : ∀ (events : List (Byte × Bool)) (s : State), (s.setKeys events).iq = s.iq
  | [], _ => rfl
  | e :: events, s => State.setKeys_iq events (s.setKey e.1 e.2)

theorem State.canonical_setKeys : ∀ (events : List (Byte × Bool)) {s : State}, canonical s → canonical (s.setKeys events)
  | [], _, h => h
  | e :: events, s, h => State.canonical_setKeys events (s.canonical_setKey e.1 e.2 h)

/-- A byte that is neither the last-key byte nor that of a key named keeps its value. -/
theorem State.byteAt_setKeys_other : ∀ (events : List (Byte × Bool)) {s : State} {a : Nat}, canonical s →
    a ≠ s.config.keyramBase + 2 → (∀ e ∈ events, a ≠ s.config.keyramBase + 8 + e.1.toNat) →
    (s.setKeys events).byteAt a = s.byteAt a
  | [], _, _, _, _, _ => rfl
  | e :: events, s, a, hs, hlast, hkeys => by
    obtain ⟨he, hrest⟩ := List.forall_mem_cons.1 hkeys
    have ih := State.byteAt_setKeys_other events (s.canonical_setKey e.1 e.2 hs) hlast hrest
    rw [State.setKeys, List.foldl_cons, ← State.setKeys, ih, State.byteAt_setKey hs, if_neg hlast, if_neg he]

/-- Events for other keys leave a key's byte as its own event wrote it. -/
theorem State.byteAt_setKey_setKeys {s : State} (hs : canonical s) (e : Byte × Bool) {after : List (Byte × Bool)}
    (h : ∀ x ∈ after, x.1 ≠ e.1) :
    ((s.setKey e.1 e.2).setKeys after).byteAt (s.config.keyramBase + 8 + e.1.toNat) = if e.2 then 255 else 0 := by
  have hlast : s.config.keyramBase + 8 + e.1.toNat ≠ s.config.keyramBase + 2 := by omega
  have hkeys : ∀ x ∈ after, s.config.keyramBase + 8 + e.1.toNat ≠ s.config.keyramBase + 8 + x.1.toNat := fun x hx heq =>
    h x hx (BitVec.eq_of_toNat_eq (Nat.add_left_cancel heq).symm)
  rw [State.byteAt_setKeys_other after (s.canonical_setKey e.1 e.2 hs) hlast hkeys, State.byteAt_setKey hs, if_neg hlast,
    if_pos rfl]

/-- The byte of a key is what the last event for it says (R350, R352). -/
theorem State.byteAt_setKeys_key {s : State} (hs : canonical s) (before : List (Byte × Bool)) (e : Byte × Bool)
    {after : List (Byte × Bool)} (h : ∀ x ∈ after, x.1 ≠ e.1) :
    (s.setKeys (before ++ e :: after)).byteAt (s.config.keyramBase + 8 + e.1.toNat) = if e.2 then 255 else 0 := by
  rw [State.setKeys_append, ← State.setKeys_config before s]
  exact State.byteAt_setKey_setKeys (State.canonical_setKeys before hs) e h

/-- A scalar read sees the bytes it covers only. -/
theorem State.memRead_congr {s t : State} {a : Nat} {w : Width} (h : ∀ i, i < w.bytes → t.byteAt (a + i) = s.byteAt (a + i)) :
    t.memRead a w = s.memRead a w :=
  eq_of_bytes_eq fun i hi => by rw [State.byte_memRead _ a w i hi, State.byte_memRead _ a w i hi, h i hi]

/-- The key vector lies before the bytes a key event writes (R34). -/
theorem State.keyVector_setKeys {s : State} (hs : canonical s) (events : List (Byte × Bool)) :
    (s.setKeys events).memRead s.config.keyramBase .w16 = s.memRead s.config.keyramBase .w16 :=
  State.memRead_congr fun i hi => by
    have hi2 : i < 2 := hi
    exact State.byteAt_setKeys_other events hs (by omega) fun e _ => by omega

/-- A request adds its address to the queue, or nothing when that is 0 (R342). -/
theorem State.request_iq_append (s : State) (v : Addr) : (s.request v).iq = s.iq ++ if v = 0 then [] else [v] := by
  rw [State.request_iq]
  split
  · rw [List.append_nil]
  · rfl

/-- A clean keyboard mapper does nothing (R351). -/
theorem keyboardCycle_of_clean {s : State} (h : s.kdirty = false) : keyboardCycle s = s := by
  rw [keyboardCycle, h, if_neg Bool.false_ne_true, ← h]

theorem keyboardCycle_iq_of_dirty {s : State} (h : s.kdirty = true) : (keyboardCycle s).iq =
    s.iq ++ if s.memRead s.config.keyramBase .w16 = 0 then [] else [s.memRead s.config.keyramBase .w16] := by
  rw [keyboardCycle_iq, if_pos h, State.request_iq_append]
  rfl

/-- Settles O48: each event writes its key's byte and the last-key byte, and leaves the vector and the queue alone. -/
theorem keyEventsCoalesce : Obligations.KeyEventsCoalesce := by
  intro s events last hs u
  have hu : u = (s.setKeys events).setKey last.1 last.2 := s.setKeys_append events [last]
  have hconfig : u.config = s.config := State.setKeys_config _ s
  have hdirty : u.kdirty = true := by rw [hu, State.setKey_kdirty]
  have hiq : u.iq = s.iq := State.setKeys_iq _ s
  have hvector : u.memRead s.config.keyramBase .w16 = s.memRead s.config.keyramBase .w16 := State.keyVector_setKeys hs _
  refine ⟨?_, hdirty, hiq, ?_, fun a => State.byteAt_setKeys_other _ hs, ?_, rfl, keyboardCycle_of_clean rfl,
    SameMemory.of_bus (keyboardCycle_bus u)⟩
  · rw [hu, State.byteAt_setKey (State.canonical_setKeys events hs), State.setKeys_config, if_pos rfl]
  · intro before e after heq hafter
    have hsplit : u = s.setKeys (before ++ e :: after) := congrArg s.setKeys heq
    rw [hsplit, State.byteAt_setKeys_key hs before e hafter]
  · rw [keyboardCycle_iq_of_dirty hdirty, hconfig, hiq, hvector]

/-! ### A key's request in its cycle -/

/-- Units of work add to the queue and take nothing from it (R334 to R337). -/
theorem exists_videoCycle_iq_append (v : VideoParams) (s : State) : ∃ more, (videoCycle v s).iq = s.iq ++ more := by
  refine videoCycle_induct v (fun t => ∃ more, t.iq = s.iq ++ more) (fun t _ h => ?_) (fun _ h => h) s
    ⟨[], (List.append_nil _).symm⟩
  obtain ⟨more, hmore⟩ := h
  rcases videoUnit_iq v t with e | ⟨a, -, e⟩
  · exact ⟨more, e.trans hmore⟩
  · exact ⟨more ++ [a], by rw [e, hmore, List.append_assoc]⟩

/-- With the latch empty, the request at the front when the CPU is done is latched in the same cycle (R329, R340). -/
theorem finishCycle_latches (v : VideoParams) (p : Bool) {s : State} {front : Addr} {rest : List Addr}
    (hq : s.iq = front :: rest) (hl : s.ilatch = 0) :
    (finishCycle v p s).ilatch = front ∧ (finishCycle v p s).paused = (p || s.paused) := by
  obtain ⟨more, hmore⟩ := exists_videoCycle_iq_append v s
  have hfront : (videoCycle v s).iq = front :: (rest ++ more) := by rw [hmore, hq, List.cons_append]
  have harb := arbitrate_of_served p hfront ((videoCycle_ilatch v s).trans hl)
  rw [finishCycle, harb, videoCycle_paused]
  exact ⟨rfl, rfl⟩

/-- Settles O49: the vector is queued first, and neither the CPU nor the video generator comes before it. -/
theorem keyRequestIsLatchedInItsCycle : Obligations.KeyRequestIsLatchedInItsCycle := by
  intro s hhost hdirty hiq hlatch hvector
  obtain ⟨u, frame, hstep⟩ := step_phases s
  rw [s.takeHostActions_none hhost] at frame
  have hkeyboard : (keyboardCycle { s with host := s.host.tail }).iq = [s.memRead s.config.keyramBase .w16] :=
    (keyboardCycle_iq_of_dirty (s := { s with host := s.host.tail }) hdirty).trans
      ((congrArg (· ++ _) hiq).trans (if_neg hvector))
  have hqueue := frame.iq.trans hkeyboard
  obtain ⟨hlatched, hpaused⟩ := finishCycle_latches Config.video Config.pauseOnInterrupt hqueue (frame.ilatch hlatch)
  exact ⟨_, hstep, hlatched, finishCycle_int _ _ u ▸ frame.int hlatch, hpaused.trans (congrArg _ frame.paused)⟩

/-! ### Reboot and program load -/

theorem State.reg_cpuReset (s : State) (n : Nat) (hn : n < 16) : s.cpuReset.reg n = 0 := State.reg_powerOn s.config n hn

/-- Settles O58: the registers and the memory are those of power-on, the other fields by unfolding. -/
theorem rebootState : Obligations.RebootState := fun s =>
  ⟨s.reg_cpuReset, rfl, rfl, rfl, rfl, rfl, rfl, rfl, rfl, rfl, fun _ => rfl, rfl, rfl, rfl, rfl, rfl, rfl, rfl, rfl, rfl⟩

/-- Settles O59: the bytes are stored as `storeBytes` stores them, and then the CPU is reset. -/
theorem loadProgramState : Obligations.LoadProgramState := fun s bytes addr hs =>
  ⟨s.byteAt_storeBytes addr.toNat bytes hs, wrap_toNat _ _, s.reg_cpuReset, rfl, rfl, rfl,
    SameHidden.refl { s with ilatch := 0, crem := 0, paused := false }⟩

end Sys2Proof.Machine
end

section
/-! PROOFS of O50 to O54 (60_exceptions.md, section 4): the units of the video generator, the chain of units one cycle starts, and
the budget of a frame. Each unit of cost 0 brings the generator to a phase from which fewer units are needed until one has a
cost, so a chain is never cut short. -/

namespace Sys2Proof.Machine

open Sys2Proof.Safety

/-! ### The colour of a pixel -/

/-- The background palette with full alpha (R338). -/
def State.background (s : State) : List Byte := [s.vramByte 1, s.vramByte 2, s.vramByte 3, 255]

/-- The foreground palette with full alpha (R338). -/
def State.foreground (s : State) : List Byte := [s.vramByte 4, s.vramByte 5, s.vramByte 6, 255]

theorem pixelRGBA_eq (v : VideoParams) (s : State) (x y : Nat) :
    pixelRGBA v s x y = if foregroundPixel v s x y then s.foreground else s.background := rfl

theorem pixelRGBA_cases (v : VideoParams) (s : State) (x y : Nat) :
    pixelRGBA v s x y = s.background ∨ pixelRGBA v s x y = s.foreground := by
  rw [pixelRGBA_eq]
  split
  · exact .inr rfl
  · exact .inl rfl

theorem pixelRGBA_length (v : VideoParams) (s : State) (x y : Nat) : (pixelRGBA v s x y).length = 4 := by
  rcases pixelRGBA_cases v s x y with h | h <;> rw [h] <;> rfl

theorem characterMode_iff (s : State) : s.characterMode = true ↔ s.vramByte 0 = 1 := decide_eq_true_iff

theorem borderPixel_iff (v : VideoParams) (s : State) (x : Nat) :
    borderPixel v s x = true ↔ s.vramByte 0 = 1 ∧ (x < v.charHOffset ∨ v.displayW - v.charHOffset ≤ x) := by
  rw [borderPixel, Bool.and_eq_true, characterMode_iff, Bool.or_eq_true, decide_eq_true_iff, decide_eq_true_iff]

theorem pixelRGBA_of_border {v : VideoParams} {s : State} {x : Nat} (y : Nat) (h : borderPixel v s x = true) :
    pixelRGBA v s x y = s.background := by
  rw [pixelRGBA_eq, foregroundPixel, h]; rfl

theorem pixelRGBA_of_no_bank {v : VideoParams} {s : State} (x y : Nat) (h : v.tileBanks ≤ (s.vramByte 7).toNat) :
    pixelRGBA v s x y = s.background := by
  rw [pixelRGBA_eq, foregroundPixel, decide_eq_false (Nat.not_lt.2 h), Bool.and_false, Bool.false_and]; rfl

/-- Inside the border and with a bank that there is, the tile's bit decides (R338). -/
theorem pixelRGBA_of_tile {v : VideoParams} {s : State} {x : Nat} (y : Nat) (hborder : borderPixel v s x = false)
    (hbank : (s.vramByte 7).toNat < v.tileBanks) :
    pixelRGBA v s x y =
      if v.tileBit s.vramByte s.characterMode (s.vramByte 7) x y = true then s.foreground else s.background := by
  rw [pixelRGBA_eq, foregroundPixel, hborder, decide_eq_true hbank, Bool.not_false, Bool.true_and, Bool.true_and]

/-- Settles O51: the border, the missing bank, and the tile's bit in either mode. -/
theorem pixelColourFromPalettes : Obligations.PixelColourFromPalettes := by
  intro v s x y
  refine ⟨pixelRGBA_cases v s x y, fun hmode hedge => pixelRGBA_of_border y ((borderPixel_iff v s x).2 ⟨hmode, hedge⟩),
    pixelRGBA_of_no_bank x y, fun hmode hbank => ?_, fun hmode hleft hright hbank => ?_⟩
  · have hblock : s.characterMode = false := decide_eq_false hmode
    have htile := pixelRGBA_of_tile (x := x) y (by rw [borderPixel, hblock, Bool.false_and]) hbank
    rwa [hblock] at htile
  · have hinside : borderPixel v s x = false := Bool.eq_false_iff.2 fun h => by
      have := ((borderPixel_iff v s x).1 h).2
      omega
    have htile := pixelRGBA_of_tile y hinside hbank
    rwa [(characterMode_iff s).2 hmode] at htile

/-! ### The units -/

/-- A legal scan position has its four bytes in the frame buffer (R38). -/
theorem pixel_lt_frameBytes {v : VideoParams} {x y : Nat} (hx : x < v.displayW) (hy : y < v.displayH) :
    (y * v.displayW + x) * 4 + 4 ≤ frameBytes v := by
  have hrow : (y + 1) * v.displayW ≤ v.displayH * v.displayW := Nat.mul_le_mul_right _ hy
  rw [Nat.succ_mul, Nat.mul_comm v.displayH] at hrow
  rw [frameBytes]
  omega

/-- Settles O50: the bytes a pixel unit stores, and its scan fields. -/
theorem pixelUnitWritesOnePixel : Obligations.PixelUnitWritesOnePixel := by
  intro v s hx hy hfb
  have hend := pixel_lt_frameBytes hx hy
  have hlen := pixelRGBA_length v s s.vx s.vy
  refine ⟨fun j hj => ?_, fun a ha => ?_, rfl, fun h => ?_, fun h => ?_, rfl, rfl, rfl, SameMemory.of_bus rfl,
    SameRegs.of_regs rfl, SameSpecials.refl s, rfl, rfl⟩
  · exact Memory.read_store_self _ _ _ _ _ j hfb (by omega) (by omega)
  · exact Memory.read_store_other _ _ _ _ _ a (by omega)
  · rw [pixelUnit_vx, pixelUnit_vphase, if_neg h.ne, if_neg h.ne]
    exact ⟨rfl, fun _ => rfl⟩
  · rw [pixelUnit_vx, pixelUnit_vphase, if_pos h, if_pos h]
    exact ⟨rfl, rfl⟩

/-- A request changes the queue only (R342). -/
theorem State.request_eq (s : State) (v : Addr) : s.request v = { s with iq := s.iq ++ if v = 0 then [] else [v] } := by
  rw [← State.request_iq_append, State.request]

/-- Settles O52: each of the three units is a request and its scan fields. -/
theorem blankingUnitsRequestTheirVectors : Obligations.BlankingUnitsRequestTheirVectors := by
  intro v s
  refine ⟨?_, ?_, ?_⟩
  · rw [hblankUnit, State.request_eq]; rfl
  · rw [vblankUnit, State.request_eq]; rfl
  · rw [syncUnit, State.request_eq]; rfl

/-! ### The chain of units in one cycle -/

theorem videoUnit_of_pixel (v : VideoParams) {s : State} (h : s.vphase = .pixel) : videoUnit v s = pixelUnit v s := by
  rw [videoUnit, h]

theorem videoUnit_of_hblank (v : VideoParams) {s : State} (h : s.vphase = .hblank) : videoUnit v s = hblankUnit v s := by
  rw [videoUnit, h]

theorem videoUnit_of_vblank (v : VideoParams) {s : State} (h : s.vphase = .vblank) : videoUnit v s = vblankUnit v s := by
  rw [videoUnit, h]

theorem videoUnit_of_sync (v : VideoParams) {s : State} (h : s.vphase = .sync) : videoUnit v s = syncUnit v s := by
  rw [videoUnit, h]

/-- The most units it takes, from a phase, until one has a cost (R333). -/
def unitsToCost : VPhase → Nat
  | .pixel => 1
  | .hblank => 1
  | .sync => 2
  | .vblank => 3

theorem unitsToCost_pos (p : VPhase) : 0 < unitsToCost p := by cases p <;> decide

theorem unitsToCost_le_maxUnits (p : VPhase) : unitsToCost p ≤ maxUnits := by cases p <;> decide

/-- A unit of cost 0 is a v-blank or a sync, and brings the generator nearer to a pixel. -/
theorem unitsToCost_of_free (v : VideoParams) {s : State} (h : (videoUnit v s).vrem = 0) :
    unitsToCost (videoUnit v s).vphase < unitsToCost s.vphase := by
  cases hp : s.vphase with
  | pixel => rw [videoUnit_vrem_pixel v s hp] at h; cases h
  | hblank => rw [videoUnit_vrem_hblank v s hp] at h; cases h
  | vblank => rw [videoUnit_of_vblank v hp, vblankUnit_vphase]; split <;> decide
  | sync => rw [videoUnit_of_sync v hp, syncUnit_vphase]; decide

theorem startUnits_of_spending (v : VideoParams) (n : Nat) {s : State} (h : s.vrem ≠ 0) : startUnits v n s = s := by
  cases n with
  | zero => rfl
  | succ n => exact if_neg h

theorem startUnits_of_spent (v : VideoParams) (n : Nat) {s : State} (h : s.vrem = 0) :
    startUnits v (n + 1) s = startUnits v n (videoUnit v s) := if_pos h

/-- Allowing more units than it takes until one has a cost makes no difference. -/
theorem startUnits_succ (v : VideoParams) : ∀ (n : Nat) {s : State}, (s.vrem = 0 → unitsToCost s.vphase ≤ n) →
    startUnits v (n + 1) s = startUnits v n s
  | 0, s, h => startUnits_of_spending v 1 fun h0 => absurd (h h0) (Nat.not_le.2 (unitsToCost_pos _))
  | n + 1, s, h => by
    by_cases h0 : s.vrem = 0
    · rw [startUnits_of_spent v _ h0, startUnits_of_spent v _ h0]
      exact startUnits_succ v n fun hu => Nat.le_of_lt_succ ((unitsToCost_of_free v hu).trans_le (h h0))
    · rw [startUnits_of_spending v _ h0, startUnits_of_spending v _ h0]

/-- While a unit has cycles left, a cycle of the generator takes one off (R333). -/
theorem videoCycle_of_spending (v : VideoParams) {s : State} (h : s.vrem ≠ 0) :
    videoCycle v s = { s with vrem := s.vrem - 1 } := by
  rw [videoCycle, startUnits_of_spending v _ h]

/-- When none is left, a cycle does the next unit and then goes on as from there (R333). -/
theorem videoCycle_of_spent (v : VideoParams) {s : State} (h : s.vrem = 0) : videoCycle v s = videoCycle v (videoUnit v s) := by
  have hfit : (videoUnit v s).vrem = 0 → unitsToCost (videoUnit v s).vphase ≤ 2 := fun hu =>
    Nat.le_of_lt_succ ((unitsToCost_of_free v hu).trans_le (unitsToCost_le_maxUnits _))
  have hchain : startUnits v maxUnits s = startUnits v maxUnits (videoUnit v s) :=
    (startUnits_of_spent v 2 h).trans (startUnits_succ v 2 hfit).symm
  rw [videoCycle, hchain, videoCycle]

/-- The chain of units that a cycle starts from a state with nothing left to spend. -/
theorem exists_chain (v : VideoParams) : ∀ (n : Nat) {s : State}, unitsToCost s.vphase ≤ n → s.vrem = 0 →
    ∃ k, 1 ≤ k ∧ k ≤ n ∧ (∀ j, 1 ≤ j → j < k → ((videoUnit v)^[j] s).vrem = 0) ∧ 0 < ((videoUnit v)^[k] s).vrem ∧
      videoCycle v s = { (videoUnit v)^[k] s with vrem := ((videoUnit v)^[k] s).vrem - 1 }
  | 0, _, h, _ => absurd h (Nat.not_le.2 (unitsToCost_pos _))
  | n + 1, s, h, h0 => by
    by_cases hu : (videoUnit v s).vrem = 0
    · obtain ⟨k, hk, hkn, hfree, hcost, hcycle⟩ :=
        exists_chain v n (Nat.le_of_lt_succ ((unitsToCost_of_free v hu).trans_le h)) hu
      refine ⟨k + 1, Nat.le_add_left 1 k, Nat.succ_le_succ hkn, fun j hj hjk => ?_, hcost,
        (videoCycle_of_spent v h0).trans hcycle⟩
      match j, hj with
      | 1, _ => exact hu
      | j + 2, _ => exact hfree (j + 1) (Nat.le_add_left 1 j) (Nat.lt_of_succ_lt_succ hjk)
    · exact ⟨1, le_rfl, Nat.le_add_left 1 n, fun j hj hjk => absurd hj (Nat.not_le.2 hjk), Nat.pos_of_ne_zero hu,
        (videoCycle_of_spent v h0).trans (videoCycle_of_spending v hu)⟩

/-- Settles O53: three units are enough from every phase. -/
theorem videoCycleStartsUnitsUntilOneCosts : Obligations.VideoCycleStartsUnitsUntilOneCosts := fun v s =>
  ⟨videoCycle_of_spending v, exists_chain v 3 (unitsToCost_le_maxUnits s.vphase)⟩

/-! ### The budget of a frame -/

/-- The cycles of a scanline: its pixels at 2 and one h-blank of 12 (R332). -/
def cyclesPerLine (v : VideoParams) : Nat := v.displayW * 2 + 12

/-- The active area is what its scanlines take. -/
theorem activeCycles_eq (v : VideoParams) : v.activeCycles = v.displayH * cyclesPerLine v := by
  rw [VideoParams.activeCycles, cyclesPerLine]; ring

theorem cyclesPerVblank_eq (v : VideoParams) : cyclesPerVblank v = cyclesPerFrame v - v.activeCycles := Nat.sub_sub _ _ _

/-- A frame has room for the active area (R332). -/
theorem activeCycles_le (v : VideoParams) : v.activeCycles ≤ cyclesPerFrame v := by
  rw [cyclesPerFrame, VideoParams.clockRate]; omega

theorem frame_budget (v : VideoParams) : v.displayH * cyclesPerLine v + cyclesPerVblank v = cyclesPerFrame v := by
  rw [cyclesPerVblank_eq, ← activeCycles_eq, Nat.add_sub_cancel' (activeCycles_le v)]

theorem second_budget (v : VideoParams) : 30 * cyclesPerFrame v + cyclesPerSync v = v.clockRate := by
  rw [cyclesPerSync, cyclesPerFrame]; omega

/-- Settles O54, by the division of the clock rate by 30 (R332). -/
theorem frameBudgetAddsUp : Obligations.FrameBudgetAddsUp := by
  intro v
  refine ⟨frame_budget v, second_budget v, ?_, fun h => ?_⟩ <;> rw [cyclesPerSync, cyclesPerFrame]
  · omega
  · rw [h]; decide

end Sys2Proof.Machine
end

section
/-! PROOFS of O55 and O56 (60_exceptions.md, section 4). What the generator does is a sequence of units, and the cycles of the
sequence add up: as many cycles as the units cost come to the state after them, but that units of cost 0 at the end are still
due. Which units a frame has, what they cost and what they request is then found without counting cycles: pixel by pixel,
scanline by scanline, frame by frame. -/

namespace Sys2Proof.Machine

open Sys2Proof.Safety

/-! ### Cycles and units -/

/-- The state with no cycle left to spend. -/
def State.settled (s : State) : State := { s with vrem := 0 }

theorem State.settled_eq {s : State} (h : s.vrem = 0) : s.settled = s := by rw [State.settled, ← h]

/-- A unit does not look at the cycles left. -/
theorem videoUnit_settled (v : VideoParams) (s : State) : videoUnit v s.settled = videoUnit v s := by
  cases h : s.vphase with
  | pixel => rw [videoUnit_of_pixel v h, videoUnit_of_pixel v (s := s.settled) h]; rfl
  | hblank => rw [videoUnit_of_hblank v h, videoUnit_of_hblank v (s := s.settled) h]; rfl
  | vblank => rw [videoUnit_of_vblank v h, videoUnit_of_vblank v (s := s.settled) h]; rfl
  | sync => rw [videoUnit_of_sync v h, videoUnit_of_sync v (s := s.settled) h]; rfl

theorem units_settled (v : VideoParams) (k : Nat) (s : State) :
    (videoUnit v)^[k + 1] s.settled = (videoUnit v)^[k + 1] s := congrArg (videoUnit v)^[k] (videoUnit_settled v s)

/-- What the next `k` units cost in all. -/
def unitsCost (v : VideoParams) : Nat → State → Nat
  | 0, _ => 0
  | k + 1, s => (videoUnit v s).vrem + unitsCost v k (videoUnit v s)

theorem unitsCost_settled (v : VideoParams) (k : Nat) (s : State) : unitsCost v k s.settled = unitsCost v k s := by
  cases k with
  | zero => rfl
  | succ k => rw [unitsCost, unitsCost, videoUnit_settled]

theorem unitsCost_add (v : VideoParams) (k : Nat) : ∀ (j : Nat) (s : State),
    unitsCost v (j + k) s = unitsCost v j s + unitsCost v k ((videoUnit v)^[j] s)
  | 0, s => by rw [Nat.zero_add, unitsCost, Nat.zero_add]; rfl
  | j + 1, s => by rw [Nat.succ_add, unitsCost, unitsCost, unitsCost_add v k j, Nat.add_assoc]; rfl

theorem videoCycles_add (v : VideoParams) (n : Nat) : ∀ (m : Nat) (s : State),
    videoCycles v (m + n) s = videoCycles v n (videoCycles v m s)
  | 0, s => by rw [Nat.zero_add, videoCycles]
  | m + 1, s => by rw [Nat.succ_add, videoCycles, videoCycles, videoCycles_add v n m]

/-- The cycles left are spent one by one (R333). -/
theorem videoCycles_vrem (v : VideoParams) : ∀ (r : Nat) {s : State}, s.vrem = r → videoCycles v r s = s.settled
  | 0, s, h => (State.settled_eq h).symm
  | r + 1, s, h => by
    rw [videoCycles, videoCycle_of_spending v (by rw [h]; exact Nat.succ_ne_zero r)]
    exact videoCycles_vrem v r (by rw [h]; rfl)

/-- The cycles of one unit come to the state after it, when a cycle is run at all. -/
theorem videoCycles_unit (v : VideoParams) {s : State} (h : s.vrem = 0) {n : Nat} (hn : 0 < (videoUnit v s).vrem + n) :
    videoCycles v ((videoUnit v s).vrem + n) s = videoCycles v n (videoUnit v s).settled := by
  obtain ⟨m, hm⟩ := Nat.exists_eq_add_one.2 hn
  have hstart : videoCycles v ((videoUnit v s).vrem + n) s = videoCycles v ((videoUnit v s).vrem + n) (videoUnit v s) := by
    rw [hm, videoCycles, videoCycles, videoCycle_of_spent v h]
  rw [hstart, videoCycles_add, videoCycles_vrem v _ rfl]

theorem vrem_le_unitsCost (v : VideoParams) : ∀ (k : Nat) (s : State),
    ((videoUnit v)^[k + 1] s).vrem ≤ unitsCost v (k + 1) s
  | 0, _ => Nat.le_add_right _ _
  | k + 1, s => (vrem_le_unitsCost v k (videoUnit v s)).trans (Nat.le_add_left _ _)

/-- As many cycles as some units cost come to the state after them, when the last has a cost. -/
theorem videoCycles_unitsCost (v : VideoParams) : ∀ (k : Nat) {s : State}, s.vrem = 0 →
    0 < ((videoUnit v)^[k + 1] s).vrem → videoCycles v (unitsCost v (k + 1) s) s = ((videoUnit v)^[k + 1] s).settled
  | 0, s, h, hlast => videoCycles_unit v h hlast
  | k + 1, s, h, hlast => by
    have hsame := units_settled v k (videoUnit v s)
    have hpos : 0 < unitsCost v (k + 1) (videoUnit v s) := hlast.trans_le (vrem_le_unitsCost v k (videoUnit v s))
    have ih := videoCycles_unitsCost v k (s := (videoUnit v s).settled) rfl (by rwa [hsame])
    rw [unitsCost_settled, hsame] at ih
    rw [unitsCost, videoCycles_unit v h (Nat.add_pos_right _ hpos), ih]
    rfl

/-- Units of cost 0 that are due make no difference to the cycles to come, and leave nothing to spend. -/
theorem videoCycle_of_free (v : VideoParams) : ∀ (n : Nat) {s : State}, s.vrem = 0 → unitsCost v n s = 0 →
    ((videoUnit v)^[n] s).vrem = 0 ∧ videoCycle v s = videoCycle v ((videoUnit v)^[n] s)
  | 0, _, h, _ => ⟨h, rfl⟩
  | n + 1, s, h, hfree => by
    obtain ⟨hu, hrest⟩ := Nat.add_eq_zero_iff.1 hfree
    obtain ⟨hspent, hsame⟩ := videoCycle_of_free v n hu hrest
    exact ⟨hspent, (videoCycle_of_spent v h).trans hsame⟩

/-- As many cycles as some units cost, the last `n` of which cost nothing, come to where these are still due: after them the
state is the one after all units. -/
theorem videoCycles_then_due (v : VideoParams) {s : State} (h : s.vrem = 0) (k n : Nat)
    (hlast : 0 < ((videoUnit v)^[k] s).vrem) (hfree : unitsCost v n ((videoUnit v)^[k] s) = 0) :
    let t := videoCycles v (unitsCost v (k + n) s) s
    t.vrem = 0 ∧ videoCycle v t = videoCycle v ((videoUnit v)^[n] t) ∧
      (videoUnit v)^[n] t = ((videoUnit v)^[k + n] s).settled := by
  intro t
  have ht : t = ((videoUnit v)^[k] s).settled := by
    cases k with
    | zero => exact absurd h (Nat.pos_iff_ne_zero.1 hlast)
    | succ k =>
      have := videoCycles_unitsCost v k h hlast
      rwa [← Nat.add_zero (unitsCost v (k + 1) s), ← hfree, ← unitsCost_add] at this
  have htrem : t.vrem = 0 := ht ▸ rfl
  have htfree : unitsCost v n t = 0 := by rw [ht, unitsCost_settled, hfree]
  obtain ⟨hspent, hsame⟩ := videoCycle_of_free v n htrem htfree
  refine ⟨htrem, hsame, ?_⟩
  cases n with
  | zero => exact ht
  | succ n =>
    have hend : (videoUnit v)^[n + 1] t = (videoUnit v)^[k + (n + 1)] s := by
      rw [ht, units_settled, ← Function.iterate_add_apply, Nat.add_comm]
    rw [← hend, State.settled_eq hspent]

/-! ### What units leave alone -/

/-- What one unit leaves alone, any number of units does. -/
theorem keep_units {α : Type} (v : VideoParams) (f : State → α) (h : ∀ s, f (videoUnit v s) = f s) (k : Nat) (s : State) :
    f ((videoUnit v)^[k] s) = f s := by
  induction k generalizing s with
  | zero => rfl
  | succ k ih => exact (ih _).trans (h s)

/-- A vector of VRAM by its offset (R310). -/
def State.vramVector (s : State) (o : Nat) : Addr := s.memRead (s.config.vramBase + o) .w16

theorem vramVector_videoUnit (v : VideoParams) (s : State) (o : Nat) : (videoUnit v s).vramVector o = s.vramVector o := by
  rw [State.vramVector, videoUnit_config]
  exact State.memRead_congr fun i _ => SameMemory.of_bus (videoUnit_bus v s) (videoUnit_config v s) _

theorem vramVector_units (v : VideoParams) (k : Nat) (s : State) (o : Nat) :
    ((videoUnit v)^[k] s).vramVector o = s.vramVector o :=
  keep_units v (·.vramVector o) (fun s => vramVector_videoUnit v s o) k s

/-! ### The scan -/

/-- The addresses of a list that are queued when they are requested one after the other (R342). -/
def accepted (requests : List Addr) : List Addr := requests.filter fun a => decide (a ≠ 0)

theorem State.request_iq_accepted (s : State) (a : Addr) : (s.request a).iq = s.iq ++ accepted [a] := by
  rw [State.request_iq_append]
  by_cases h : a = 0
  · rw [if_pos h, accepted, List.filter_cons_of_neg (by simpa using h)]; rfl
  · rw [if_neg h, accepted, List.filter_cons_of_pos (by simpa using h)]; rfl

/-- Where the scan stands (R37). -/
structure Scan where
  phase : VPhase
  column : Nat
  row : Nat
  frame : Nat

def State.scan (s : State) : Scan := ⟨s.vphase, s.vx, s.vy, s.vframe⟩

/-- The next `k` units cost `c` cycles in all, make these requests, and bring the scan to `p`. -/
structure Scans (v : VideoParams) (s : State) (k c : Nat) (requests : List Addr) (p : Scan) : Prop where
  cost : unitsCost v k s = c
  queue : ((videoUnit v)^[k] s).iq = s.iq ++ accepted requests
  scan : ((videoUnit v)^[k] s).scan = p

theorem Scans.none (v : VideoParams) (s : State) : Scans v s 0 0 [] s.scan := ⟨rfl, (List.append_nil _).symm, rfl⟩

theorem Scans.trans {v : VideoParams} {s : State} {j k c d : Nat} {xs ys : List Addr} {p q : Scan} (h : Scans v s j c xs p)
    (h' : Scans v ((videoUnit v)^[j] s) k d ys q) : Scans v s (j + k) (c + d) (xs ++ ys) q where
  cost := by rw [unitsCost_add, h.cost, h'.cost]
  queue := by
    rw [Nat.add_comm, Function.iterate_add_apply, h'.queue, h.queue, List.append_assoc, accepted, accepted, accepted,
      List.filter_append]
  scan := by rw [Nat.add_comm, Function.iterate_add_apply, h'.scan]

/-- A pixel unit inside a scanline (R334). -/
theorem scans_pixel (v : VideoParams) {s : State} {x y f : Nat} (h : s.scan = ⟨.pixel, x, y, f⟩) :
    Scans v s 1 2 [] (if x + 1 = v.displayW then ⟨.hblank, 0, y, f⟩ else ⟨.pixel, x + 1, y, f⟩) := by
  obtain ⟨hphase, rfl, rfl, rfl⟩ := Scan.mk.inj h
  have hu := videoUnit_of_pixel v hphase
  refine ⟨?_, ?_, ?_⟩
  · rw [unitsCost, unitsCost, hu, pixelUnit_vrem]
  · rw [Function.iterate_one, hu, pixelUnit_iq]; exact (List.append_nil _).symm
  · rw [Function.iterate_one, hu, State.scan, pixelUnit_vphase, pixelUnit_vx, pixelUnit_vy, pixelUnit_vframe]
    split <;> rfl

/-- The h-blank unit (R335). -/
theorem scans_hblank (v : VideoParams) {s : State} {x y f : Nat} (h : s.scan = ⟨.hblank, x, y, f⟩) :
    Scans v s 1 12 [s.vramVector 10] (if y + 1 = v.displayH then ⟨.vblank, x, 0, f⟩ else ⟨.pixel, x, y + 1, f⟩) := by
  obtain ⟨hphase, rfl, rfl, rfl⟩ := Scan.mk.inj h
  have hu := videoUnit_of_hblank v hphase
  refine ⟨?_, ?_, ?_⟩
  · rw [unitsCost, unitsCost, hu, hblankUnit_vrem]
  · rw [Function.iterate_one, hu, hblankUnit_iq, State.request_iq_accepted]; rfl
  · rw [Function.iterate_one, hu, State.scan, hblankUnit_vphase, hblankUnit_vx, hblankUnit_vy, hblankUnit_vframe]
    split <;> rfl

/-- The v-blank unit (R336). -/
theorem scans_vblank (v : VideoParams) {s : State} {x y f : Nat} (h : s.scan = ⟨.vblank, x, y, f⟩) :
    Scans v s 1 (cyclesPerVblank v) [s.vramVector 12] (if f + 1 = 30 then ⟨.sync, x, y, 0⟩ else ⟨.pixel, x, y, f + 1⟩) := by
  obtain ⟨hphase, rfl, rfl, rfl⟩ := Scan.mk.inj h
  have hu := videoUnit_of_vblank v hphase
  refine ⟨?_, ?_, ?_⟩
  · rw [unitsCost, unitsCost, hu, vblankUnit_vrem, Nat.add_zero]
  · rw [Function.iterate_one, hu, vblankUnit_iq, State.request_iq_accepted]; rfl
  · rw [Function.iterate_one, hu, State.scan, vblankUnit_vphase, vblankUnit_vx, vblankUnit_vy, vblankUnit_vframe]
    split <;> rfl

/-- The sync unit (R337). -/
theorem scans_sync (v : VideoParams) {s : State} {x y f : Nat} (h : s.scan = ⟨.sync, x, y, f⟩) :
    Scans v s 1 (cyclesPerSync v) [s.vramVector 8] ⟨.pixel, x, y, f⟩ := by
  obtain ⟨hphase, rfl, rfl, rfl⟩ := Scan.mk.inj h
  have hu := videoUnit_of_sync v hphase
  refine ⟨?_, ?_, ?_⟩
  · rw [unitsCost, unitsCost, hu, syncUnit_vrem, Nat.add_zero]
  · rw [Function.iterate_one, hu, syncUnit_iq, State.request_iq_accepted]; rfl
  · rw [Function.iterate_one, hu, State.scan, syncUnit_vphase, syncUnit_vx, syncUnit_vy, syncUnit_vframe]

/-! ### Scanlines, frames and seconds -/

/-- The rest of a scanline's pixels, at 2 cycles each (R334). -/
theorem scans_pixels (v : VideoParams) {y f : Nat} : ∀ (n : Nat) {s : State} {x : Nat}, s.scan = ⟨.pixel, x, y, f⟩ →
    x + (n + 1) = v.displayW → Scans v s (n + 1) (2 * (n + 1)) [] ⟨.hblank, 0, y, f⟩
  | 0, s, x, h, hx => by
    have first := scans_pixel v h
    rwa [if_pos hx] at first
  | n + 1, s, x, h, hx => by
    have first := scans_pixel v h
    rw [if_neg (by omega)] at first
    have all := first.trans (scans_pixels v n first.scan (by omega))
    rwa [show 1 + (n + 1) = n + 1 + 1 by omega, show 2 + 2 * (n + 1) = 2 * (n + 1 + 1) by omega] at all

/-- The units of a scanline: its pixels and the h-blank. -/
def unitsPerLine (v : VideoParams) : Nat := v.displayW + 1

/-- One scanline (R334, R335). -/
theorem scans_line (v : VideoParams) {s : State} {y f : Nat} (h : s.scan = ⟨.pixel, 0, y, f⟩) :
    Scans v s (unitsPerLine v) (cyclesPerLine v) [s.vramVector 10]
      (if y + 1 = v.displayH then ⟨.vblank, 0, 0, f⟩ else ⟨.pixel, 0, y + 1, f⟩) := by
  have pixels := scans_pixels v v.widthPred h (Nat.zero_add _)
  have all := pixels.trans (scans_hblank v pixels.scan)
  rw [vramVector_units] at all
  rwa [cyclesPerLine, Nat.mul_comm v.displayW]

/-- The rest of a frame's scanlines. -/
theorem scans_lines (v : VideoParams) {f : Nat} : ∀ (n : Nat) {s : State} {y : Nat}, s.scan = ⟨.pixel, 0, y, f⟩ →
    y + (n + 1) = v.displayH → Scans v s ((n + 1) * unitsPerLine v) ((n + 1) * cyclesPerLine v)
      (List.replicate (n + 1) (s.vramVector 10)) ⟨.vblank, 0, 0, f⟩
  | 0, s, y, h, hy => by
    have first := scans_line v h
    rwa [if_pos hy, ← Nat.one_mul (unitsPerLine v), ← Nat.one_mul (cyclesPerLine v)] at first
  | n + 1, s, y, h, hy => by
    have first := scans_line v h
    rw [if_neg (by omega)] at first
    have all := first.trans (scans_lines v n first.scan (by omega))
    rw [vramVector_units] at all
    rwa [Nat.succ_mul (n + 1), Nat.succ_mul (n + 1), Nat.add_comm _ (unitsPerLine v), Nat.add_comm _ (cyclesPerLine v)]

/-- The units of the active area of a frame. -/
def unitsPerArea (v : VideoParams) : Nat := v.displayH * unitsPerLine v

/-- The active area of a frame. -/
theorem scans_area (v : VideoParams) {s : State} {f : Nat} (h : s.scan = ⟨.pixel, 0, 0, f⟩) :
    Scans v s (unitsPerArea v) (v.displayH * cyclesPerLine v) (List.replicate v.displayH (s.vramVector 10))
      ⟨.vblank, 0, 0, f⟩ :=
  scans_lines v v.heightPred h (Nat.zero_add _)

/-- The requests of a frame: an h-blank for each scanline, then a v-blank (R335, R336). -/
def State.frameRequests (v : VideoParams) (s : State) : List Addr :=
  List.replicate v.displayH (s.vramVector 10) ++ [s.vramVector 12]

theorem frameRequests_units (v : VideoParams) (k : Nat) (s : State) :
    ((videoUnit v)^[k] s).frameRequests v = s.frameRequests v := by
  rw [State.frameRequests, vramVector_units, vramVector_units, State.frameRequests]

/-- One frame (R339). -/
theorem scans_frame (v : VideoParams) {s : State} {f : Nat} (h : s.scan = ⟨.pixel, 0, 0, f⟩) :
    Scans v s (unitsPerArea v + 1) (cyclesPerFrame v) (s.frameRequests v)
      (if f + 1 = 30 then ⟨.sync, 0, 0, 0⟩ else ⟨.pixel, 0, 0, f + 1⟩) := by
  have area := scans_area v h
  have all := area.trans (scans_vblank v area.scan)
  rwa [vramVector_units, frame_budget] at all

/-- Frames of one second but its last. -/
theorem scans_frames (v : VideoParams) {s : State} (h : s.scan = ⟨.pixel, 0, 0, 0⟩) : ∀ n : Nat, n < 30 →
    Scans v s (n * (unitsPerArea v + 1)) (n * cyclesPerFrame v) (List.replicate n (s.frameRequests v)).flatten
      ⟨.pixel, 0, 0, n⟩
  | 0, _ => by
    rw [Nat.zero_mul, Nat.zero_mul, ← h]
    exact Scans.none v s
  | n + 1, hn => by
    have before := scans_frames v h n (by omega)
    have all := before.trans (scans_frame v before.scan)
    rw [frameRequests_units, if_neg (by omega)] at all
    rw [Nat.succ_mul, Nat.succ_mul, List.replicate_succ', List.flatten_append, List.flatten_singleton]
    exact all

/-- The thirty frames of a second. -/
theorem scans_thirty_frames (v : VideoParams) {s : State} (h : s.scan = ⟨.pixel, 0, 0, 0⟩) :
    Scans v s (29 * (unitsPerArea v + 1) + (unitsPerArea v + 1)) (30 * cyclesPerFrame v)
      (List.replicate 30 (s.frameRequests v)).flatten ⟨.sync, 0, 0, 0⟩ := by
  have before := scans_frames v h 29 (by decide)
  have all := before.trans (scans_frame v before.scan)
  rw [frameRequests_units, if_pos rfl] at all
  rw [Nat.succ_mul 29 (cyclesPerFrame v), List.replicate_succ', List.flatten_append, List.flatten_singleton]
  exact all

/-! ### Coming to the first pixel -/

/-- A v-blank is due only after an h-blank, which costs 12 (R335). -/
theorem vrem_of_vblank_due (v : VideoParams) {s : State} (h : (videoUnit v s).vphase = .vblank) :
    (videoUnit v s).vrem = 12 := by
  cases hp : s.vphase with
  | pixel => rw [videoUnit_of_pixel v hp, pixelUnit_vphase] at h; split at h <;> cases h
  | hblank => exact videoUnit_vrem_hblank v s hp
  | vblank => rw [videoUnit_of_vblank v hp, vblankUnit_vphase] at h; split at h <;> cases h
  | sync => rw [videoUnit_of_sync v hp, syncUnit_vphase] at h; cases h

/-- The last unit of the active area costs 12 cycles. -/
theorem Scans.last_of_area {v : VideoParams} {s : State} {k c f : Nat} {xs : List Addr} (hs : s.vphase = .pixel)
    (h : Scans v s k c xs ⟨.vblank, 0, 0, f⟩) : 0 < ((videoUnit v)^[k] s).vrem := by
  have hdue : ((videoUnit v)^[k] s).vphase = .vblank := congrArg Scan.phase h.scan
  cases k with
  | zero => cases hs.symm.trans hdue
  | succ k =>
    rw [Function.iterate_succ_apply'] at hdue ⊢
    rw [vrem_of_vblank_due v hdue]
    decide

/-- The cost of the last of some units is what is then left to spend. -/
theorem Scans.last {v : VideoParams} {s : State} {k c : Nat} {xs : List Addr} {p : Scan}
    (h : Scans v ((videoUnit v)^[k] s) 1 c xs p) : ((videoUnit v)^[k + 1] s).vrem = c := by
  rw [Function.iterate_succ_apply']
  exact h.cost

/-- When some units bring the scan to the first pixel of a frame and the last `n` of them cost nothing, the cycles of their
cost come there, with these `n` still due. -/
theorem Scans.comes_to {v : VideoParams} {s : State} {k n c f : Nat} {xs : List Addr} (h0 : s.vrem = 0)
    (h : Scans v s (k + n) c xs ⟨.pixel, 0, 0, f⟩) (hlast : 0 < ((videoUnit v)^[k] s).vrem)
    (hfree : unitsCost v n ((videoUnit v)^[k] s) = 0) :
    let t := videoCycles v c s
    let u := (videoUnit v)^[n] t
    t.vrem = 0 ∧ videoCycle v t = videoCycle v u ∧
      u.vphase = .pixel ∧ u.vx = 0 ∧ u.vy = 0 ∧ u.vrem = 0 ∧ u.vframe = f ∧ u.iq = s.iq ++ accepted xs ∧
      SameMemory s u ∧ SameRegs s u ∧ SameSpecials s u ∧ u.pc = s.pc ∧ u.ilatch = s.ilatch := by
  intro t u
  obtain ⟨ht, hsame, hu⟩ := videoCycles_then_due v h0 k n hlast hfree
  rw [h.cost] at ht hsame hu
  obtain ⟨hphase, hx, hy, hframe⟩ := Scan.mk.inj h.scan
  have keep {α : Type} (field : State → α) (hfield : ∀ s, field (videoUnit v s) = field s) :
      field ((videoUnit v)^[k + n] s) = field s := keep_units v field hfield (k + n) s
  refine ⟨ht, hsame, ?_⟩
  rw [show u = ((videoUnit v)^[k + n] s).settled from hu]
  exact ⟨hphase, hx, hy, rfl, hframe, h.queue,
    SameMemory.of_bus (keep State.bus (videoUnit_bus v)) (keep State.config (videoUnit_config v)),
    SameRegs.of_regs (keep State.regs (videoUnit_regs v)),
    ⟨keep State.mem (videoUnit_mem v), keep State.ret (videoUnit_ret v), keep State.int (videoUnit_int v)⟩,
    keep State.pc (videoUnit_pc v), keep State.ilatch (videoUnit_ilatch v)⟩

theorem State.scan_eq {s : State} (hp : s.vphase = .pixel) (hx : s.vx = 0) (hy : s.vy = 0) :
    s.scan = ⟨.pixel, 0, 0, s.vframe⟩ := by rw [State.scan, hp, hx, hy]

/-- Settles O55: the last unit of a frame is its v-blank, and the one before it an h-blank. -/
theorem frameTakesItsCyclesAndRequests : Obligations.FrameTakesItsCyclesAndRequests := by
  intro v s hp hx hy h0 hf
  have hs := State.scan_eq hp hx hy
  have area := scans_area v hs
  have vblank := scans_vblank v area.scan
  have frame := scans_frame v hs
  rw [if_neg hf.ne] at frame
  by_cases hb : cyclesPerVblank v = 0
  · rw [if_pos hb]
    exact frame.comes_to (k := unitsPerArea v) (n := 1) h0 (area.last_of_area hp) (vblank.cost.trans hb)
  · rw [if_neg hb]
    exact frame.comes_to (k := unitsPerArea v + 1) (n := 0) h0 (vblank.last ▸ Nat.pos_of_ne_zero hb) rfl

/-- Settles O56: the last units of a second are the h-blank of its last scanline, its last v-blank and the sync. -/
theorem secondTakesClockRateCycles : Obligations.SecondTakesClockRateCycles := by
  intro v s hp hx hy h0 hf
  have hs : s.scan = ⟨.pixel, 0, 0, 0⟩ := hf ▸ State.scan_eq hp hx hy
  have frames := scans_frames v hs 29 (by decide)
  have area := frames.trans (scans_area v frames.scan)
  have vblank := scans_vblank v area.scan
  have thirty := scans_thirty_frames v hs
  have sync := scans_sync v thirty.scan
  have second := thirty.trans sync
  rw [vramVector_units, second_budget] at second
  by_cases hsync : cyclesPerSync v = 0
  · rw [if_pos hsync]
    by_cases hb : cyclesPerVblank v = 0
    · rw [if_pos hb]
      have due := vblank.trans (scans_sync v vblank.scan)
      exact second.comes_to (k := 29 * (unitsPerArea v + 1) + unitsPerArea v) (n := 2) h0 (area.last_of_area hp)
        (by rw [due.cost, hb, hsync])
    · rw [if_neg hb]
      exact second.comes_to (n := 1) h0 (vblank.last ▸ Nat.pos_of_ne_zero hb) (sync.cost.trans hsync)
  · rw [if_neg hsync]
    exact second.comes_to (n := 0) h0 (sync.last ▸ Nat.pos_of_ne_zero hsync) rfl

end Sys2Proof.Machine
end
